-- ==== Sys2Proof/Word.lean ====
section
/-! DEFINITION. The widths of 00_scope R5 under the names the other files use. -/
namespace Sys2Proof

/-- A byte: button bytes, display bytes, characters, samples, counts (`P_W_PB`, `P_W_DISP`, `P_W_SAMPLE`, `P_W_LEN`). -/
abbrev Byte := BitVec 8

/-- 16 bits: `ELAPSED`, `PLAYBACK_DELAY`, the PWM registers (`P_W_ELAPSED`, `P_W_DELAY`, `P_W_PWM`). -/
abbrev Half := BitVec 16

/-- 32 bits: the generator state (`P_W_LFSR`). -/
abbrev Word := BitVec 32

/-- The 2-bit logical index of 30_encoding R60: sequence step, tone, bar and logical button. -/
abbrev LB := BitVec 2

/-- A bar index, 3 bits (30_encoding R65). -/
abbrev BarIdx := BitVec 3

/-- A 7-bit segment pattern (00_scope R10, 30_encoding R62). -/
abbrev Seg := BitVec 7

end Sys2Proof
end

