-- ==== Sys2Proof/Syntax.lean ====
section
/-! DEFINITION. The instructions of spec/opcode_table.json (one constructor a row), the block's enumerations
(30_encoding R57 to R59, R63), its agents and the lines its environment presents (10_state R37, 30_encoding R70). -/
namespace Sys2Proof

/-- `STAGE` (30_encoding R57). The codes 5 to 7 are never produced; R69: "the type has five values". -/
inductive Stage where
  | init | simon | player | success | fail
  deriving DecidableEq, Repr

/-- `SLOT` (30_encoding R58). -/
inductive Slot where
  | wait | b1 | b2 | b3 | b4
  deriving DecidableEq, Repr

/-- `FG_PH`, the foreground's phase (30_encoding R59). -/
inductive Phase where
  | boot | top | init | simPrep | simNext | simOnWait | simOffWait | simDone | plySub | plyPost
  | sucShow | sucWait | failShow | failWait1 | failWait2
  deriving DecidableEq, Repr

/-- `OCT`, the integers -3 to +3 (30_encoding R63; R69: "the type is the integer range -3 to +3"). -/
inductive Octave where
  | neg3 | neg2 | neg1 | zero | pos1 | pos2 | pos3
  deriving DecidableEq, Repr

/-- The 3-bit code of a stage (R57). -/
def Stage.code : Stage → BitVec 3
  | .init => 0 | .simon => 1 | .player => 2 | .success => 3 | .fail => 4

/-- The 3-bit code of a slot (R58). -/
def Slot.code : Slot → BitVec 3
  | .wait => 0 | .b1 => 1 | .b2 => 2 | .b3 => 3 | .b4 => 4

/-- The 4-bit code of a phase (R59). -/
def Phase.code : Phase → BitVec 4
  | .boot => 0 | .top => 1 | .init => 2 | .simPrep => 3 | .simNext => 4 | .simOnWait => 5 | .simOffWait => 6
  | .simDone => 7 | .plySub => 8 | .plyPost => 9 | .sucShow => 10 | .sucWait => 11 | .failShow => 12
  | .failWait1 => 13 | .failWait2 => 14

/-- The 3-bit two's complement code of an octave (R63). -/
def Octave.code : Octave → BitVec 3
  | .neg3 => 5 | .neg2 => 6 | .neg1 => 7 | .zero => 0 | .pos1 => 1 | .pos2 => 2 | .pos3 => 3

/-- The signed value of an octave, `sext(OCT)` (R63). -/
def Octave.value : Octave → Int
  | .neg3 => -3 | .neg2 => -2 | .neg1 => -1 | .zero => 0 | .pos1 => 1 | .pos2 => 2 | .pos3 => 3

/-- The slot of logical button `i`, `B(i+1)` (R58, R60). -/
def Slot.held (i : LB) : Slot :=
  if i = 0 then .b1 else if i = 1 then .b2 else if i = 2 then .b3 else .b4

/-- The logical button a slot holds, `SLOT - 1`; none for WAIT (R58). -/
def Slot.button : Slot → Option LB
  | .wait => none | .b1 => some 0 | .b2 => some 1 | .b3 => some 2 | .b4 => some 3

/-- The five formats of 30_encoding R55. -/
inductive Format where
  | rxchar | event | fgph | opsel | stim
  deriving DecidableEq, Repr

/-- The agents that take steps (00_scope R3). -/
inductive Agent where
  | fg | t1 | t5 | xd | rx | pc
  deriving DecidableEq, Repr

/-- One constructor per row of spec/opcode_table.json. Operands that a format gives no bits are the operation's arguments. -/
inductive Instr where
  -- RXCHAR: the serial command characters (46_serial_input R125 to R137)
  | rxDigit1 | rxQ | rxDigit2 | rxW | rxDigit3 | rxE | rxDigit4 | rxR
  | rxComma | rxK | rxPeriod | rxL
  | rxOther (c : Byte)
  -- EVENT: the agents' steps (30_encoding R66)
  | fgStep (adcReady : Bool) (adcSample : Byte)
  | evT1
  | evT5 (btnRaw : Byte)
  | evXd
  | evRx (rxChar : Byte)
  | evPwmClk
  -- FGPH: the foreground's micro-steps (45_gameplay R106 to R121)
  | fgBoot | fgTop | fgInit
  | fgSimPrep (adcReady : Bool) (adcSample : Byte)
  | fgSimNext | fgSimOnWait | fgSimOffWait | fgSimDone
  | fgPlySubWait | fgPlySubB1 | fgPlySubB2 | fgPlySubB3 | fgPlySubB4 | fgPlyPost
  | fgSucShow | fgSucWait | fgFailShow | fgFailWait1 | fgFailWait2
  -- OPSEL: the component operations (30_encoding R67)
  | lfsrAdvance | lfsrSeed | lfsrSave
  | dbTick (raw : Byte)
  | edgeSample
  | tmrTick | tmrReset
  | tmrReached (th : Half)
  | tmrPrepare (adcReady : Bool) (adcSample : Byte)
  | tmrWaitFull | tmrWaitHalf
  | dispSet (l r : Seg)
  | dispRender (idx : BarIdx)
  | dispTick | dispLatch
  | dispDigits (n : Byte)
  | toneOn (i : LB)
  | toneOff | octInc | octDec | opPwmClk
  | keyPress (i : LB)
  | keyClear
  -- the pseudo-operation of 30_encoding R71
  | dispBlank
  deriving DecidableEq, Repr

/-- The input ports of 10_state R37, as presented with one step. -/
structure InPorts where
  rst : Bool := false
  tick1 : Bool := false
  tick5 : Bool := false
  btnRaw : Byte := 0
  xferDone : Bool := false
  rxValid : Bool := false
  rxChar : Byte := 0
  adcReady : Bool := false
  adcSample : Byte := 0
  pwmClk : Bool := false
  deriving DecidableEq, Repr, Inhabited

/-- One line of what the environment is going to present: the input ports of one step (R70's stimulus lines), or a bare
operation in the OPSEL format, as 95_test_vectors 3.5 applies `TONE.ON` (log 4). -/
inductive Line where
  | ports (p : InPorts)
  | op (bytes : List Byte)
  deriving DecidableEq, Repr

/-- The agents whose strobes are set, `EV[0]` first (30_encoding R66). -/
def InPorts.agents (p : InPorts) : List Agent :=
  (if p.tick1 then [.t1] else []) ++ (if p.tick5 then [.t5] else []) ++ (if p.xferDone then [.xd] else []) ++
    (if p.rxValid then [.rx] else []) ++ (if p.pwmClk then [.pc] else [])

/-- The ports with one agent's strobe taken away. -/
def InPorts.clear (p : InPorts) : Agent → InPorts
  | .fg => p
  | .t1 => { p with tick1 := false }
  | .t5 => { p with tick5 := false }
  | .xd => { p with xferDone := false }
  | .rx => { p with rxValid := false }
  | .pc => { p with pwmClk := false }

/-- The `EVENT` code `EV[4:0]` of an agent's step (30_encoding R66). -/
def Agent.eventCode : Agent → BitVec 5
  | .fg => 0b00000 | .t1 => 0b00001 | .t5 => 0b00010 | .xd => 0b00100 | .rx => 0b01000 | .pc => 0b10000

end Sys2Proof
end

