-- ==== Sys2Proof/Config.lean ====
section
/-! DEFINITION. What an implementation fixes (00_scope R5 to R12; 92 "Open parameters") and the values the spec leaves free. -/
namespace Sys2Proof

/-- The debounce windows a two-plane counter can count, 2 and 3 (00_scope R7); any other value is refused by the type (93 U18). -/
inductive DebounceN where
  | two | three
  deriving DecidableEq, Repr

/-- The window as a number. -/
def DebounceN.count : DebounceN → Nat
  | .two => 2 | .three => 3

/-- `P_BTN_BIT`: the bit position of each logical button; "The four positions are distinct" (00_scope R8; 93 U19 refuses any
other table, here by construction). The field defaults only show that such a table exists. -/
structure ButtonMap where
  bit : LB → BitVec 3 := fun i => 4#3 + i.setWidth 3
  distinct : ∀ i j : LB, bit i = bit j → i = j := by decide
  deriving Inhabited

/-- The parameters every operation takes as an argument. -/
structure Params where
  /-- `P_LFSR_MASK` (R6) -/
  lfsrMask : Word
  /-- `P_LFSR_SEED` (R6) -/
  lfsrSeed : Word
  /-- `P_DEBOUNCE_N` (R7) -/
  debounceN : DebounceN
  /-- `P_BTN_BIT` (R8) -/
  btn : ButtonMap
  /-- `P_TONE_PER` (R9, 20_memory R42) -/
  tonePer : LB → Half
  /-- `P_SEG_DIGIT`, entries 0 to 10 (R10, 20_memory R41) -/
  segDigit : Fin 11 → Seg
  /-- `P_SEG_BAR_L`, `P_SEG_BAR_R` (R10) -/
  segBarL : Seg
  segBarR : Seg
  /-- `P_PAT_SUCCESS_L`, `P_PAT_SUCCESS_R` (R10) -/
  patSuccessL : Seg
  patSuccessR : Seg
  /-- `P_PAT_FAIL_L`, `P_PAT_FAIL_R` (R10) -/
  patFailL : Seg
  patFailR : Seg

/-- `P_SEG_BLANK`, "equal to `P_SEG_DIGIT[10]`" (R10). -/
def Params.segBlank (P : Params) : Seg := P.segDigit 10

namespace Config

/-! Open parameters: no value is stated, so nothing can be proved of one (log 13). -/
opaque lfsrMask : Word
opaque lfsrSeed : Word
opaque btn : ButtonMap
opaque tonePer : LB → Half
opaque segDigit : Fin 11 → Seg
opaque segBarL : Seg
opaque segBarR : Seg
opaque patSuccessL : Seg
opaque patSuccessR : Seg
opaque patFailL : Seg
opaque patFailR : Seg

/-- `P_DEBOUNCE_N`: "Value 2" (00_scope R7). -/
def debounceN : DebounceN := .two

/-- `P_LEFT_MARK`: "value `0x80` (bit 7)" (00_scope R10). -/
def leftMark : Byte := 0x80

/-- The parameters of this machine. -/
def params : Params where
  lfsrMask := lfsrMask
  lfsrSeed := lfsrSeed
  debounceN := debounceN
  btn := btn
  tonePer := tonePer
  segDigit := segDigit
  segBarL := segBarL
  segBarR := segBarR
  patSuccessL := patSuccessL
  patSuccessR := patSuccessR
  patFailL := patFailL
  patFailR := patFailR

/-! Free values: a counter of State picks a fresh one each time. -/

/-- DESIGN CHOICE: the ports the environment presents once `State.trace` is used up; any values, any agent (93 U7 to U9; log 2). -/
opaque env : Nat → InPorts

/-- DESIGN CHOICE: which of several events presented together is taken first (60_exceptions R143; log 3). -/
opaque eventOrder : Nat → Nat

/-- DESIGN CHOICE: `VIS`, `DIG_LEFT`, `DIG_RIGHT` after a reset step, "unspecified (environment)" (70 R159, 93 U15; log 8). -/
opaque visAfterReset : Nat → Byte
opaque digLeftAfterReset : Nat → Seg
opaque digRightAfterReset : Nat → Seg

end Config

end Sys2Proof
end

