-- ==== Sys2Proof/WellFormed.lean ====
section
/-! DEFINITION. Which instructions are well formed. Every operand but one has exactly its encoding's values by its type
(30_encoding R60: out-of-range operands "must be prevented at the type/construction level"); the character of `RX.other` must be
one of the 244 that no other `RXCHAR` row names (46_serial_input R137). -/
namespace Sys2Proof

/-- The twelve command characters (30_encoding R56; the code points are ASCII, log 14). -/
def commandChars : List Byte :=
  [0x31, 0x71, 0x32, 0x77, 0x33, 0x65, 0x34, 0x72, 0x2C, 0x6B, 0x2E, 0x6C]

/-- Is the code one of the twelve command characters? -/
def isCommandChar (c : Byte) : Bool := commandChars.contains c

/-- The check. -/
def Instr.wf : Instr → Bool
  | .rxOther c => !isCommandChar c
  | .rxDigit1 | .rxQ | .rxDigit2 | .rxW | .rxDigit3 | .rxE | .rxDigit4 | .rxR | .rxComma | .rxK | .rxPeriod | .rxL => true
  | .fgStep _ _ | .evT1 | .evT5 _ | .evXd | .evRx _ | .evPwmClk => true
  | .fgBoot | .fgTop | .fgInit | .fgSimPrep _ _ | .fgSimNext | .fgSimOnWait | .fgSimOffWait | .fgSimDone => true
  | .fgPlySubWait | .fgPlySubB1 | .fgPlySubB2 | .fgPlySubB3 | .fgPlySubB4 | .fgPlyPost => true
  | .fgSucShow | .fgSucWait | .fgFailShow | .fgFailWait1 | .fgFailWait2 => true
  | .lfsrAdvance | .lfsrSeed | .lfsrSave | .dbTick _ | .edgeSample | .tmrTick | .tmrReset | .tmrReached _ => true
  | .tmrPrepare _ _ | .tmrWaitFull | .tmrWaitHalf | .dispSet _ _ | .dispRender _ | .dispTick | .dispLatch => true
  | .dispDigits _ | .toneOn _ | .toneOff | .octInc | .octDec | .opPwmClk | .keyPress _ | .keyClear | .dispBlank => true

/-- An instruction is well formed. -/
abbrev Instr.WellFormed (i : Instr) : Prop := i.wf = true

end Sys2Proof
end

