-- ==== Sys2Proof/Decode.lean ====
section
/-! DEFINITION. Decoding and encoding in the five formats of 30_encoding R55. An instruction's bytes are its code (right-aligned
in the first byte, bit 0 the table's bit 0) and then its operands, which the spec gives no bits ("operands are arguments of the
operation, not bits of the index"): one byte each, `th` two bytes, low byte first (log 15). A `STIM` word is two bytes, low byte
first (log 15). -/
namespace Sys2Proof

/-- Why bytes are no instruction; each names its line of 30_encoding R69. -/
inductive DecodeError where
  /-- no code byte -/
  | noCode
  /-- an operand byte is missing -/
  | missingOperand
  /-- an operand byte holds a value its operand cannot have (R60: it "cannot be formed") -/
  | operandTooWide
  /-- bits above the format's width are set -/
  | bitsAboveFormat
  /-- `EV` with more than one strobe: "not one step" -/
  | severalStrobes
  /-- `FG_PH` = 15: never produced -/
  | reservedPhase
  /-- `SLOT` = 5, 6, 7 in phase `PLY_SUB`: never produced -/
  | reservedSlot
  /-- `OPSEL` 23 to 31: "no such operation" -/
  | reservedOperation
  deriving DecidableEq, Repr

/-- The decoder's answer. -/
abbrev Decoded := Except DecodeError Instr

/-- `RXCHAR`: an exact match of all 8 bits, every other code being the default row (30_encoding R56). -/
def decodeRxChar (c : Byte) : Instr :=
  match c.toNat with
  | 0x31 => .rxDigit1 | 0x71 => .rxQ
  | 0x32 => .rxDigit2 | 0x77 => .rxW
  | 0x33 => .rxDigit3 | 0x65 => .rxE
  | 0x34 => .rxDigit4 | 0x72 => .rxR
  | 0x2C => .rxComma | 0x6B => .rxK
  | 0x2E => .rxPeriod | 0x6C => .rxL
  | _ => .rxOther c

/-- A one-bit operand byte. -/
def bitOperand (b : Byte) : Except DecodeError Bool :=
  if b = 0 then .ok false else if b = 1 then .ok true else .error .operandTooWide

/-- The operands `adc_ready`, `adc_sample`. -/
def adcOperands (mk : Bool → Byte → Instr) : List Byte → Decoded
  | r :: v :: _ =>
    match bitOperand r with
    | .ok b => .ok (mk b v)
    | .error e => .error e
  | _ => .error .missingOperand

/-- One 8-bit operand. -/
def byteOperand (mk : Byte → Instr) : List Byte → Decoded
  | b :: _ => .ok (mk b)
  | [] => .error .missingOperand

/-- A 2-bit operand of type `LB`: a wider value "cannot be formed" (30_encoding R60). -/
def lbOperand (mk : LB → Instr) : List Byte → Decoded
  | b :: _ => if b.toNat < 4 then .ok (mk (b.setWidth 2)) else .error .operandTooWide
  | [] => .error .missingOperand

/-- A 3-bit bar index (30_encoding R65). -/
def barOperand (mk : BarIdx → Instr) : List Byte → Decoded
  | b :: _ => if b.toNat < 8 then .ok (mk (b.setWidth 3)) else .error .operandTooWide
  | [] => .error .missingOperand

/-- Two segment patterns; "bit 7 of the operands is discarded" (95_test_vectors 2.5, 43 R91). -/
def segOperands (mk : Seg → Seg → Instr) : List Byte → Decoded
  | l :: r :: _ => .ok (mk (l.setWidth 7) (r.setWidth 7))
  | _ => .error .missingOperand

/-- A 16-bit operand, low byte first. -/
def halfOperand (mk : Half → Instr) : List Byte → Decoded
  | lo :: hi :: _ => .ok (mk (hi ++ lo))
  | _ => .error .missingOperand

/-- `EVENT` (30_encoding R66). -/
def decodeEvent (code : Byte) (ops : List Byte) : Decoded :=
  match code.toNat with
  | 0x00 => adcOperands .fgStep ops
  | 0x01 => .ok .evT1
  | 0x02 => byteOperand .evT5 ops
  | 0x04 => .ok .evXd
  | 0x08 => byteOperand .evRx ops
  | 0x10 => .ok .evPwmClk
  | n => if n < 0x20 then .error .severalStrobes else .error .bitsAboveFormat

/-- `FGPH` = `FG_PH`, `SLOT` side by side; `SLOT` counts only in phase `PLY_SUB` (30_encoding R59). -/
def decodeFgph (code : Byte) (ops : List Byte) : Decoded :=
  if code.toNat ≥ 0x80 then .error .bitsAboveFormat
  else
    match code.toNat / 8, code.toNat % 8 with
    | 0, _ => .ok .fgBoot
    | 1, _ => .ok .fgTop
    | 2, _ => .ok .fgInit
    | 3, _ => adcOperands .fgSimPrep ops
    | 4, _ => .ok .fgSimNext
    | 5, _ => .ok .fgSimOnWait
    | 6, _ => .ok .fgSimOffWait
    | 7, _ => .ok .fgSimDone
    | 8, 0 => .ok .fgPlySubWait
    | 8, 1 => .ok .fgPlySubB1
    | 8, 2 => .ok .fgPlySubB2
    | 8, 3 => .ok .fgPlySubB3
    | 8, 4 => .ok .fgPlySubB4
    | 8, _ => .error .reservedSlot
    | 9, _ => .ok .fgPlyPost
    | 10, _ => .ok .fgSucShow
    | 11, _ => .ok .fgSucWait
    | 12, _ => .ok .fgFailShow
    | 13, _ => .ok .fgFailWait1
    | 14, _ => .ok .fgFailWait2
    | _, _ => .error .reservedPhase

/-- `OPSEL` (30_encoding R67). -/
def decodeOpsel (code : Byte) (ops : List Byte) : Decoded :=
  match code.toNat with
  | 0 => .ok .lfsrAdvance
  | 1 => .ok .lfsrSeed
  | 2 => .ok .lfsrSave
  | 3 => byteOperand .dbTick ops
  | 4 => .ok .edgeSample
  | 5 => .ok .tmrTick
  | 6 => .ok .tmrReset
  | 7 => halfOperand .tmrReached ops
  | 8 => adcOperands .tmrPrepare ops
  | 9 => .ok .tmrWaitFull
  | 10 => .ok .tmrWaitHalf
  | 11 => segOperands .dispSet ops
  | 12 => barOperand .dispRender ops
  | 13 => .ok .dispTick
  | 14 => .ok .dispLatch
  | 15 => byteOperand .dispDigits ops
  | 16 => lbOperand .toneOn ops
  | 17 => .ok .toneOff
  | 18 => .ok .octInc
  | 19 => .ok .octDec
  | 20 => .ok .opPwmClk
  | 21 => lbOperand .keyPress ops
  | 22 => .ok .keyClear
  | n => if n < 32 then .error .reservedOperation else .error .bitsAboveFormat

/-- A `STIM` word's strobes, `EV[4:0]` = bits 13:9 (30_encoding R70). -/
def stimEvent (w : BitVec 14) : BitVec 5 := w.extractLsb' 9 5

/-- A `STIM` word's `adc_ready`, bit 8 (30_encoding R70). -/
def stimReady (w : BitVec 14) : Bool := w.getLsbD 8

/-- A `STIM` word's `DATA`, bits 7:0 (30_encoding R70). -/
def stimData (w : BitVec 14) : Byte := w.extractLsb' 0 8

/-- `STIM`: the `EVENT` instruction of the strobes, with `DATA` as the operand its strobe takes (30_encoding R70). DESIGN CHOICE
(log 31): a word with bits set where R70 says 0 (`adc_ready` or `DATA` under `T1`, `XD`, `PC`; `adc_ready` under `T5`, `RX`) is
no line of R70's table and is not listed in R69 either; it is accepted and those bits are ignored, so that 0x02FF is `EV.T1`.
`DATA` of a foreground word with `adc_ready` = 0 is kept as the sample operand, which no step reads. -/
def decodeStim (w : BitVec 14) : Decoded :=
  match (stimEvent w).toNat with
  | 0x00 => .ok (.fgStep (stimReady w) (stimData w))
  | 0x01 => .ok .evT1
  | 0x02 => .ok (.evT5 (stimData w))
  | 0x04 => .ok .evXd
  | 0x08 => .ok (.evRx (stimData w))
  | 0x10 => .ok .evPwmClk
  | _ => .error .severalStrobes

/-- The input ports a `STIM` word presents; each strobe takes `DATA` on its own port (30_encoding R70). -/
def portsOfStim (w : BitVec 14) : InPorts where
  tick1 := (stimEvent w).getLsbD 0
  tick5 := (stimEvent w).getLsbD 1
  btnRaw := stimData w
  xferDone := (stimEvent w).getLsbD 2
  rxValid := (stimEvent w).getLsbD 3
  rxChar := stimData w
  adcReady := stimReady w
  adcSample := stimData w
  pwmClk := (stimEvent w).getLsbD 4

/-- The decoder, total on any bytes; bytes past an instruction's operands are not read. DESIGN CHOICE (log 15): the two bytes of
a 14-bit `STIM` word, which R70 gives only as four hex digits, are read low byte first; the two bits above the word, the high
byte's upper two, must be 0. -/
def decode (f : Format) (bytes : List Byte) : Decoded :=
  match f, bytes with
  | .stim, lo :: hi :: _ =>
    if hi.toNat < 64 then decodeStim ((hi.setWidth 6 ++ lo : BitVec 14)) else .error .bitsAboveFormat
  | .stim, [_] => .error .missingOperand
  | _, [] => .error .noCode
  | .rxchar, c :: _ => .ok (decodeRxChar c)
  | .event, c :: ops => decodeEvent c ops
  | .fgph, c :: ops => decodeFgph c ops
  | .opsel, c :: ops => decodeOpsel c ops

/-! ## The encoder -/

/-- A one-bit operand as a byte. -/
def bitByte (b : Bool) : Byte := if b then 1 else 0

/-- The table's code of an instruction, its don't-care bits 0 (spec/opcode_table.json's match values). -/
def codeOf : Instr → Byte
  | .rxDigit1 => 0x31 | .rxQ => 0x71 | .rxDigit2 => 0x32 | .rxW => 0x77
  | .rxDigit3 => 0x33 | .rxE => 0x65 | .rxDigit4 => 0x34 | .rxR => 0x72
  | .rxComma => 0x2C | .rxK => 0x6B | .rxPeriod => 0x2E | .rxL => 0x6C
  | .rxOther c => c
  | .fgStep _ _ => 0x00 | .evT1 => 0x01 | .evT5 _ => 0x02 | .evXd => 0x04 | .evRx _ => 0x08 | .evPwmClk => 0x10
  | .fgBoot => 0x00 | .fgTop => 0x08 | .fgInit => 0x10 | .fgSimPrep _ _ => 0x18 | .fgSimNext => 0x20
  | .fgSimOnWait => 0x28 | .fgSimOffWait => 0x30 | .fgSimDone => 0x38
  | .fgPlySubWait => 0x40 | .fgPlySubB1 => 0x41 | .fgPlySubB2 => 0x42 | .fgPlySubB3 => 0x43 | .fgPlySubB4 => 0x44
  | .fgPlyPost => 0x48 | .fgSucShow => 0x50 | .fgSucWait => 0x58 | .fgFailShow => 0x60
  | .fgFailWait1 => 0x68 | .fgFailWait2 => 0x70
  | .lfsrAdvance => 0x00 | .lfsrSeed => 0x01 | .lfsrSave => 0x02 | .dbTick _ => 0x03 | .edgeSample => 0x04
  | .tmrTick => 0x05 | .tmrReset => 0x06 | .tmrReached _ => 0x07 | .tmrPrepare _ _ => 0x08
  | .tmrWaitFull => 0x09 | .tmrWaitHalf => 0x0A | .dispSet _ _ => 0x0B | .dispRender _ => 0x0C
  | .dispTick => 0x0D | .dispLatch => 0x0E | .dispDigits _ => 0x0F | .toneOn _ => 0x10 | .toneOff => 0x11
  | .octInc => 0x12 | .octDec => 0x13 | .opPwmClk => 0x14 | .keyPress _ => 0x15 | .keyClear => 0x16
  | .dispBlank => 0x0C

/-- The operand bytes of an instruction. -/
def operandsOf : Instr → List Byte
  | .rxDigit1 | .rxQ | .rxDigit2 | .rxW | .rxDigit3 | .rxE | .rxDigit4 | .rxR | .rxComma | .rxK | .rxPeriod | .rxL => []
  | .rxOther _ => []
  | .fgStep r v => [bitByte r, v]
  | .evT5 raw => [raw]
  | .evRx c => [c]
  | .evT1 | .evXd | .evPwmClk => []
  | .fgSimPrep r v => [bitByte r, v]
  | .fgBoot | .fgTop | .fgInit | .fgSimNext | .fgSimOnWait | .fgSimOffWait | .fgSimDone => []
  | .fgPlySubWait | .fgPlySubB1 | .fgPlySubB2 | .fgPlySubB3 | .fgPlySubB4 | .fgPlyPost => []
  | .fgSucShow | .fgSucWait | .fgFailShow | .fgFailWait1 | .fgFailWait2 => []
  | .dbTick raw => [raw]
  | .tmrReached th => [th.extractLsb' 0 8, th.extractLsb' 8 8]
  | .tmrPrepare r v => [bitByte r, v]
  | .dispSet l r => [l.setWidth 8, r.setWidth 8]
  | .dispRender idx => [idx.setWidth 8]
  | .dispDigits n => [n]
  | .toneOn i => [i.setWidth 8]
  | .keyPress i => [i.setWidth 8]
  | .lfsrAdvance | .lfsrSeed | .lfsrSave | .edgeSample | .tmrTick | .tmrReset | .tmrWaitFull | .tmrWaitHalf => []
  | .dispTick | .dispLatch | .toneOff | .octInc | .octDec | .opPwmClk | .keyClear => []
  | .dispBlank => [4]

/-- The format of an instruction's row. -/
def formatOf : Instr → Format
  | .rxDigit1 | .rxQ | .rxDigit2 | .rxW | .rxDigit3 | .rxE | .rxDigit4 | .rxR | .rxComma | .rxK | .rxPeriod | .rxL => .rxchar
  | .rxOther _ => .rxchar
  | .fgStep _ _ | .evT1 | .evT5 _ | .evXd | .evRx _ | .evPwmClk => .event
  | .fgBoot | .fgTop | .fgInit | .fgSimPrep _ _ | .fgSimNext | .fgSimOnWait | .fgSimOffWait | .fgSimDone => .fgph
  | .fgPlySubWait | .fgPlySubB1 | .fgPlySubB2 | .fgPlySubB3 | .fgPlySubB4 | .fgPlyPost => .fgph
  | .fgSucShow | .fgSucWait | .fgFailShow | .fgFailWait1 | .fgFailWait2 => .fgph
  | .lfsrAdvance | .lfsrSeed | .lfsrSave | .dbTick _ | .edgeSample | .tmrTick | .tmrReset | .tmrReached _ => .opsel
  | .tmrPrepare _ _ | .tmrWaitFull | .tmrWaitHalf | .dispSet _ _ | .dispRender _ | .dispTick | .dispLatch => .opsel
  | .dispDigits _ | .toneOn _ | .toneOff | .octInc | .octDec | .opPwmClk | .keyPress _ | .keyClear | .dispBlank => .opsel

/-- The bytes of an instruction. -/
def encodeBytes (i : Instr) : List Byte := codeOf i :: operandsOf i

/-- The encoder: an instruction's format and bytes. -/
def encode (i : Instr) : Format × List Byte := (formatOf i, encodeBytes i)

/-- The instruction an encoding stands for: the pseudo-operation `DISP.BLANK` "is `DISP.RENDER 4`" (30_encoding R71). -/
def Instr.expand : Instr → Instr
  | .dispBlank => .dispRender 4
  | i => i

/-- A `STIM` word from its three fields (30_encoding R70). -/
def stimWord (ev : BitVec 5) (ready : Bool) (data : Byte) : BitVec 14 := ev ++ (BitVec.ofBool ready ++ data)

/-- The `STIM` word of an `EVENT` instruction (30_encoding R70). -/
def encodeStim : Instr → Option (BitVec 14)
  | .fgStep r v => some (stimWord 0b00000 r v)
  | .evT1 => some (stimWord 0b00001 false 0)
  | .evT5 raw => some (stimWord 0b00010 false raw)
  | .evXd => some (stimWord 0b00100 false 0)
  | .evRx c => some (stimWord 0b01000 false c)
  | .evPwmClk => some (stimWord 0b10000 false 0)
  | _ => none

/-! ## Words of the opcode table -/

/-- Is the answer an instruction? -/
def Decoded.isOk : Decoded → Bool
  | .ok _ => true
  | .error _ => false

/-- The bytes of a table word: its low `nbits` bits, and zeros up to the longest instruction (three bytes). -/
def tableBytes (nbits w : Nat) : List Byte :=
  let v := w % 2 ^ nbits
  [BitVec.ofNat 8 v, BitVec.ofNat 8 (v / 2 ^ 8), BitVec.ofNat 8 (v / 2 ^ 16)]

/-- The format a table word is read in. The table's four formats share their codes and a word does not say which is meant: the
table's own widths 5 and 7 decide first; a whole byte is read as a named character, else as an event, else as an operation,
else as a phase, else as any other character (log 9). -/
def tableFormat (nbits : Nat) (bytes : List Byte) : Format :=
  let c := bytes.headD 0
  let event := Decoded.isOk (decode .event bytes)
  let opsel := Decoded.isOk (decode .opsel bytes)
  if nbits = 5 then (if event then .event else .opsel)
  else if nbits = 7 then .fgph
  else if isCommandChar c then .rxchar
  else if event then .event
  else if opsel then .opsel
  else if Decoded.isOk (decode .fgph bytes) then .fgph
  else .rxchar

/-- The instruction the decoder reads from a word numbered as spec/opcode_table.json numbers its rows. -/
def decodeTableWord (nbits w : Nat) : Option Instr :=
  let bytes := tableBytes nbits w
  match decode (tableFormat nbits bytes) bytes with
  | .ok i => some i
  | .error _ => none

end Sys2Proof
end

