-- ==== Sys2Proof/Machine/State.lean ====
section
/-! DEFINITION. The state of the block: every register of 10_state, grouped as the document's data model groups them, the
environment model of 43_display_multiplexer R96, and the model's own fields; the reasons a step can stop; the reset state. -/
namespace Sys2Proof.Machine

/-- SequenceState (10_state R14 to R16): `LFSR_STATE`, `RE_INIT`, `STEP`, `RESULT`. -/
@[ext]
structure Seq where
  lfsrState : Word
  reInit : Word
  stepVal : LB
  result : Bool
  deriving DecidableEq, Repr

/-- Gameplay state (10_state R17 to R23): `SEQ_LEN`, `INPUT_CNT`, `PLAY_IDX`, `STAGE`, `SLOT`, `FG_PH`, `INCORRECT`,
`CONSUMED`, `RELEASED`, `SRC_KEY`. -/
@[ext]
structure Game where
  seqLen : Byte
  inputCnt : Byte
  playIdx : Byte
  stage : Stage
  slot : Slot
  fgPh : Phase
  incorrect : Bool
  consumed : Bool
  released : Bool
  srcKey : Bool
  deriving DecidableEq, Repr

/-- DebounceState (10_state R24, R25): `PB_DEB`, `CNT0`, `CNT1`. -/
@[ext]
structure Deb where
  pbDeb : Byte
  cnt0 : Byte
  cnt1 : Byte
  deriving DecidableEq, Repr

/-- EdgeSample (10_state R26): `PB_PREV`, `PB_CURR`, `CHANGED`, `FALLING`, `RISING`. -/
@[ext]
structure Edge where
  pbPrev : Byte
  pbCurr : Byte
  changed : Byte
  falling : Byte
  rising : Byte
  deriving DecidableEq, Repr

/-- TimingState (10_state R27, R28): `ELAPSED`, `PLAYBACK_DELAY`, `DELAY_READY`. -/
@[ext]
structure Time where
  elapsed : Half
  playbackDelay : Half
  delayReady : Bool
  deriving DecidableEq, Repr

/-- The display bytes of DisplayState (10_state R29): `DISP_L`, `DISP_R`. -/
@[ext]
structure Disp where
  dispL : Byte
  dispR : Byte
  deriving DecidableEq, Repr

/-- The multiplexer's transport state (10_state R30, R31): `DISP_SEL`, `TX_BYTE`, `XFER_BUSY`. -/
@[ext]
structure Mux where
  dispSel : Bool
  txByte : Byte
  xferBusy : Bool
  deriving DecidableEq, Repr

/-- The environment model of the shift register and the digits (10_state R31, 43 R96): `VIS`, `DIG_LEFT`, `DIG_RIGHT`. -/
@[ext]
structure Panel where
  vis : Byte
  digLeft : Seg
  digRight : Seg
  deriving DecidableEq, Repr

/-- `PWM_PER`, `PWM_CMP` (10_state R33). -/
@[ext]
structure Tone where
  pwmPer : Half
  pwmCmp : Half
  deriving DecidableEq, Repr

/-- The square-wave model (10_state R34): `PWM_CNT`, `TONE_OUT`. -/
@[ext]
structure Wave where
  pwmCnt : Half
  toneOut : Bool
  deriving DecidableEq, Repr

/-- Serial-key state (10_state R35): `KEYP`, `KEYB`. -/
@[ext]
structure Key where
  keyp : Bool
  keyb : LB
  deriving DecidableEq, Repr

/-- The output strobes of 10_state R38 as the latest step drove them: `spi_start`, `disp_latch` (its rising pulse), `adc_req`,
`adc_ack` (log 7). -/
@[ext]
structure Strobes where
  spiStart : Bool
  dispLatch : Bool
  adcReq : Bool
  adcAck : Bool
  deriving DecidableEq, Repr

/-- A blocking wait begun by a bare `TMR.WAIT_FULL` or `TMR.WAIT_HALF` (42 R87, R88; log 5). -/
inductive WaitKind where
  | full | half
  deriving DecidableEq, Repr

/-- The machine's state. `oct` is OctaveState (10_state R32), `ie` the event enable (R36). The last four fields are the
MODEL's own: the bit a bare operation returned (log 6), a bare wait in progress (log 5), the lines the environment is going to
present (log 1) and the counter the free values are applied to (log 2). -/
@[ext]
structure State where
  seq : Seq
  game : Game
  deb : Deb
  edge : Edge
  time : Time
  disp : Disp
  mux : Mux
  panel : Panel
  oct : Octave
  tone : Tone
  wave : Wave
  key : Key
  ie : Bool
  strobes : Strobes
  ret : Bool
  wait : Option WaitKind
  trace : List Line
  draws : Nat
  deriving DecidableEq, Repr

/-- Why a step has no successor: the model faults of 60_exceptions R139, "a device of the model, not a trap of the block". Both
are safe: "no property is claimed of what the hardware would do". -/
inductive Fault where
  /-- raised by `DISP.TICK` (so by `EV.T5`) while `XFER_BUSY` = 1; safe -/
  | transferOverrun
  /-- raised by `DISP.DIGITS` (so by `FG.FAIL_WAIT1`) when the tens digit is above 10; safe -/
  | digitOutOfTable
  deriving DecidableEq, Repr

/-- Why the model gives a step no meaning. -/
inductive Refusal where
  /-- raised by an arm of `exec` whose instruction has no meaning yet; no arm is left; safe -/
  | notModelled (mnemonic : String)
  /-- raised by `step` on a bare operation line whose bytes are no instruction (30_encoding R69: "no such operation"); safe -/
  | noInstruction (why : DecodeError)
  deriving DecidableEq, Repr

/-- The answer of a step. -/
abbrev Answer := Host.Outcome State Fault Refusal

/-- The strobes all low. -/
def Strobes.low : Strobes := ⟨false, false, false, false⟩

/-- The reset table of 70_reset_and_hazards R159, for given parameters. `VIS`, `DIG_LEFT`, `DIG_RIGHT` are "unspecified
(environment)" there: DESIGN CHOICE 0 (log 8). -/
def State.resetWith (P : Params) : State where
  seq := { lfsrState := P.lfsrSeed, reInit := P.lfsrSeed, stepVal := 0, result := false }
  game :=
    { seqLen := 0, inputCnt := 0, playIdx := 0, stage := .init, slot := .wait, fgPh := .boot,
      incorrect := false, consumed := false, released := false, srcKey := false }
  deb := { pbDeb := 0xFF, cnt0 := 0, cnt1 := 0 }
  edge := { pbPrev := 0xFF, pbCurr := 0xFF, changed := 0, falling := 0, rising := 0 }
  time := { elapsed := 0, playbackDelay := 0, delayReady := false }
  disp := { dispL := P.segBlank.setWidth 8 ||| Config.leftMark, dispR := P.segBlank.setWidth 8 }
  mux := { dispSel := false, txByte := 0, xferBusy := false }
  panel := { vis := 0, digLeft := 0, digRight := 0 }
  oct := .zero
  tone := { pwmPer := 0, pwmCmp := 0 }
  wave := { pwmCnt := 0, toneOut := false }
  key := { keyp := false, keyb := 0 }
  ie := false
  strobes := .low
  ret := false
  wait := none
  trace := []
  draws := 0

/-- The machine right after reset (70 R158, R159). No line is waiting: no program is put into it (log 1). -/
def State.reset : State := State.resetWith Config.params

/-! ## One named update per group of registers -/

def State.setSeq (s : State) (x : Seq) : State := { s with seq := x }
def State.setGame (s : State) (x : Game) : State := { s with game := x }
def State.setDeb (s : State) (x : Deb) : State := { s with deb := x }
def State.setEdge (s : State) (x : Edge) : State := { s with edge := x }
def State.setTime (s : State) (x : Time) : State := { s with time := x }
def State.setDisp (s : State) (x : Disp) : State := { s with disp := x }
def State.setMux (s : State) (x : Mux) : State := { s with mux := x }
def State.setPanel (s : State) (x : Panel) : State := { s with panel := x }
def State.setOct (s : State) (x : Octave) : State := { s with oct := x }
def State.setTone (s : State) (x : Tone) : State := { s with tone := x }
def State.setWave (s : State) (x : Wave) : State := { s with wave := x }
def State.setKey (s : State) (x : Key) : State := { s with key := x }
def State.setIe (s : State) (x : Bool) : State := { s with ie := x }
def State.setStrobes (s : State) (x : Strobes) : State := { s with strobes := x }
def State.setRet (s : State) (x : Bool) : State := { s with ret := x }
def State.setWait (s : State) (x : Option WaitKind) : State := { s with wait := x }
def State.setTrace (s : State) (x : List Line) : State := { s with trace := x }
def State.setDraws (s : State) (x : Nat) : State := { s with draws := x }

end Sys2Proof.Machine
end

