-- ==== Sys2Proof/Machine/Operands.lean ====
section
/-! DEFINITION. The derived operands of 30_encoding R68: pure functions of registers, operands and parameters. -/
namespace Sys2Proof.Machine

/-- The generator's next state: shift right by one, and XOR with the mask if the bit shifted out was 1 (40 R72). -/
def lfsrNext (mask x : Word) : Word :=
  if x.getLsbD 0 then (x >>> 1) ^^^ mask else x >>> 1

/-- `STEP`: bits 1:0 of the generator's new state (40 R72). -/
def stepOf (x : Word) : LB := x.extractLsb' 0 2

/-- `delay_of(s)`, `((34 * s + 2) div 5) + 250` (42 R86). -/
def delayOf (sample : Byte) : Half := BitVec.ofNat 16 ((34 * sample.toNat + 2) / 5 + 250)

/-- The half delay, `PLAYBACK_DELAY >> 1` (42 R89). -/
def halfDelay (t : Time) : Half := t.playbackDelay >>> 1

/-- The tone shift `3 + sext(OCT)`, 0 to 6 (44 R99). -/
def toneShift (o : Octave) : Nat := (3 + o.value).toNat

/-- The period, `TabRead(P_TONE_PER, i) >> (3 + sext(OCT))` (44 R99). -/
def tonePeriod (P : Params) (i : LB) (o : Octave) : Half := P.tonePer i >>> toneShift o

/-- The compare value, `per >> 1` (44 R99). -/
def toneCompare (per : Half) : Half := per >>> 1

/-- One octave up, saturating at +3 (44 R101). -/
def octaveUp : Octave → Octave
  | .neg3 => .neg2 | .neg2 => .neg1 | .neg1 => .zero | .zero => .pos1 | .pos1 => .pos2 | .pos2 => .pos3 | .pos3 => .pos3

/-- One octave down, saturating at -3 (44 R102). -/
def octaveDown : Octave → Octave
  | .neg3 => .neg3 | .neg2 => .neg3 | .neg1 => .neg2 | .zero => .neg1 | .pos1 => .zero | .pos2 => .pos1 | .pos3 => .pos2

/-- The left display byte, `(l & 0x7F) | P_LEFT_MARK` (43 R91). -/
def leftByte (l : Seg) : Byte := l.setWidth 8 ||| Config.leftMark

/-- The right display byte, `r & 0x7F` (43 R91). -/
def rightByte (r : Seg) : Byte := r.setWidth 8

/-- The segment field of a display byte, bits 6:0 (30_encoding R62). -/
def segField (b : Byte) : Seg := b.setWidth 7

/-- The two patterns of a bar index (43 R92): a bar at the left or the right side of the left or the right digit, else blank. -/
def barPatterns (P : Params) (idx : BarIdx) : Seg × Seg :=
  match idx.toNat with
  | 0 => (P.segBarL, P.segBlank)
  | 1 => (P.segBarR, P.segBlank)
  | 2 => (P.segBlank, P.segBarL)
  | 3 => (P.segBlank, P.segBarR)
  | _ => (P.segBlank, P.segBlank)

/-- The tens digit of a score, 10 (the blank) in place of a leading zero (43 R97). -/
def tensDigit (n : Byte) : Nat := if n.toNat / 10 = 0 then 10 else n.toNat / 10

/-- The ones digit of a score (43 R97). -/
def onesDigit (n : Byte) : Nat := n.toNat % 10

/-- `TabRead(P_SEG_DIGIT, i)`; a digit value of 11 or more has no entry (20_memory R41). -/
def segOfDigit (P : Params) (d : Nat) : Option Seg :=
  if h : d < 11 then some (P.segDigit ⟨d, h⟩) else none

/-- A byte from its bits. -/
def byteOfBits (f : Nat → Bool) : Byte :=
  BitVec.ofBool (f 7) ++ (BitVec.ofBool (f 6) ++ (BitVec.ofBool (f 5) ++ (BitVec.ofBool (f 4) ++
    (BitVec.ofBool (f 3) ++ (BitVec.ofBool (f 2) ++ (BitVec.ofBool (f 1) ++ BitVec.ofBool (f 0)))))))

/-- One input bit of the debouncer: its debounced bit and its 2-bit count. -/
structure DebBit where
  deb : Bool
  hi : Bool
  lo : Bool
  deriving DecidableEq, Repr

/-- `cnt(b)`, the number `{CNT1[b], CNT0[b]}` (41 R76). -/
def DebBit.cnt (d : DebBit) : Nat := 2 * d.hi.toNat + d.lo.toNat

/-- A debounced bit with a count, written to two bits. -/
def debBit (deb : Bool) (n : Nat) : DebBit := { deb := deb, hi := n.testBit 1, lo := n.testBit 0 }

/-- `DB.TICK` for one bit (41 R76): agree and start over, or flip on the N-th consecutive differing tick, or count. -/
def debounceBit (N : DebounceN) (raw : Bool) (d : DebBit) : DebBit :=
  if raw = d.deb then debBit d.deb 0
  else if d.cnt + 1 = N.count then debBit raw 0
  else debBit d.deb (d.cnt + 1)

/-- Bit `b` of the debouncer's registers. -/
def Deb.bitAt (d : Deb) (b : Nat) : DebBit :=
  { deb := d.pbDeb.getLsbD b, hi := d.cnt1.getLsbD b, lo := d.cnt0.getLsbD b }

/-- `DB.TICK` for all eight bits "in the same step, independently" (41 R76). -/
def debounce (N : DebounceN) (raw : Byte) (d : Deb) : Deb where
  pbDeb := byteOfBits fun b => (debounceBit N (raw.getLsbD b) (d.bitAt b)).deb
  cnt0 := byteOfBits fun b => (debounceBit N (raw.getLsbD b) (d.bitAt b)).lo
  cnt1 := byteOfBits fun b => (debounceBit N (raw.getLsbD b) (d.bitAt b)).hi

end Sys2Proof.Machine
end

