-- ==== Sys2Proof/Machine/Flags.lean ====
section
/-! DEFINITION. The one-bit values the rules compute: the generator's output bit, the edge masks, the timer's predicate, the
press and release tests, the square wave. -/
namespace Sys2Proof.Machine

/-- `RESULT`: the bit shifted out, `LFSR_STATE[0]` before the shift (40 R72). -/
def resultBit (x : Word) : Bool := x.getLsbD 0

/-- `CHANGED`, `FALLING`, `RISING` of two debounced bytes (41 R79). -/
def edgesOf (prev curr : Byte) : Edge where
  pbPrev := prev
  pbCurr := curr
  changed := prev ^^^ curr
  falling := (prev ^^^ curr) &&& prev
  rising := (prev ^^^ curr) &&& curr

/-- `TMR.REACHED(th)`: `ELAPSED >= th`, unsigned (42 R84). -/
def reached (th : Half) (s : State) : Bool := decide (th.toNat ≤ s.time.elapsed.toNat)

/-- The press edge of logical button `i` in this pass, `FALLING[P_BTN_BIT[i]]` (45 R114). -/
def pressEdge (P : Params) (s : State) (i : LB) : Bool := s.edge.falling.getLsbD (P.btn.bit i).toNat

/-- A pending serial press for logical button `i` (45 R114). -/
def keyFor (s : State) (i : LB) : Bool := s.key.keyp && decide (s.key.keyb = i)

/-- The release edge of logical button `i` in this pass, `RISING[P_BTN_BIT[i]]` (45 R115). -/
def releaseEdge (P : Params) (s : State) (i : LB) : Bool := s.edge.rising.getLsbD (P.btn.bit i).toNat

/-- `PWM_CNT` after a strobe (44 R103). -/
def waveCount (t : Tone) (w : Wave) : Half := if t.pwmPer.toNat ≤ w.pwmCnt.toNat then 0 else w.pwmCnt + 1

/-- `TONE_OUT`: high while the count is below the compare value (44 R103). -/
def waveOut (t : Tone) (cnt : Half) : Bool := decide (cnt.toNat < t.pwmCmp.toNat)

end Sys2Proof.Machine
end

