-- ==== Sys2Proof/Machine/Ops.lean ====
section
/-! DEFINITION. The component operations of 30_encoding R67 (each takes the parameters it reads), taking an event, the reset step
and the output ports. The block raises no exception (60_exceptions R138): taking an event is the one shared entry, and there is
nothing to return from (R148). -/
namespace Sys2Proof.Machine

/-! ## Taking an event, reset, output ports -/

/-- Taking an event (60_exceptions R141, R148): with `IE` = 1 the handler runs as one step, saving and restoring nothing; with
`IE` = 0 the event "takes no step and changes nothing". -/
def takeEvent (h : State → Answer) (s : State) : Answer :=
  match s.ie with
  | true => h s
  | false => .next s

/-- What a next state goes on to. -/
def onNext (a : Answer) (f : State → State) : Answer :=
  match a with
  | .next t => .next (f t)
  | .fault r => .fault r
  | .refused r => .refused r

/-- The reset step (70 R158): "writes every register of rule R159 with its reset value". The environment's cells are
"unspecified" there, so they become free values (log 8); the lines still to be presented stay (log 29). -/
def resetStep (P : Params) (s : State) : State :=
  ((((State.resetWith P).setTrace s.trace).setDraws (s.draws + 1))).setPanel
    { vis := Config.visAfterReset s.draws, digLeft := Config.digLeftAfterReset s.draws,
      digRight := Config.digRightAfterReset s.draws }

/-- The output ports of 10_state R38. -/
structure OutPorts where
  pwmPer : Half
  pwmCmp : Half
  toneOut : Bool
  spiData : Byte
  strobes : Strobes
  deriving DecidableEq, Repr

/-- The output ports after a step: four levels that are registers, four strobes (10_state R38). -/
def State.outPorts (s : State) : OutPorts where
  pwmPer := s.tone.pwmPer
  pwmCmp := s.tone.pwmCmp
  toneOut := s.wave.toneOut
  spiData := s.mux.txByte
  strobes := s.strobes

/-! ## Sequence generator (40_sequence_generator) -/

/-- `LFSR.ADVANCE` (40 R72). -/
def lfsrAdvance (P : Params) (s : State) : State :=
  s.setSeq
    { s.seq with
      lfsrState := lfsrNext P.lfsrMask s.seq.lfsrState
      result := resultBit s.seq.lfsrState
      stepVal := stepOf (lfsrNext P.lfsrMask s.seq.lfsrState) }

/-- `LFSR.SEED` (40 R73). -/
def lfsrSeed (s : State) : State := s.setSeq { s.seq with lfsrState := s.seq.reInit }

/-- `LFSR.SAVE` (40 R74). -/
def lfsrSave (s : State) : State := s.setSeq { s.seq with reInit := s.seq.lfsrState }

/-! ## Debouncer and edge detector (41_debounce_edge) -/

/-- `DB.TICK` (41 R76). -/
def dbTick (P : Params) (raw : Byte) (s : State) : State := s.setDeb (debounce P.debounceN raw s.deb)

/-- `EDGE.SAMPLE` (41 R79). -/
def edgeSample (s : State) : State := s.setEdge (edgesOf s.edge.pbCurr s.deb.pbDeb)

/-! ## Timing service (42_timing_service) -/

/-- `TMR.TICK` (42 R82): modulo 65536. -/
def tmrTick (s : State) : State := s.setTime { s.time with elapsed := s.time.elapsed + 1 }

/-- `TMR.RESET` (42 R83). -/
def tmrReset (s : State) : State := s.setTime { s.time with elapsed := 0 }

/-- `TMR.PREPARE` (42 R85): requests a conversion, and when a sample is ready consumes it. -/
def tmrPrepare (adcReady : Bool) (adcSample : Byte) (s : State) : State :=
  let t := s.setStrobes { s.strobes with adcReq := true, adcAck := s.strobes.adcAck || adcReady }
  match adcReady with
  | true => t.setTime { t.time with playbackDelay := delayOf adcSample, delayReady := true }
  | false => t.setTime { t.time with delayReady := false }

/-- The threshold of a wait: the full or the half delay (42 R87, R88). -/
def waitThreshold (k : WaitKind) (s : State) : Half :=
  match k with
  | .full => s.time.playbackDelay
  | .half => halfDelay s.time

/-- The first atomic step of `TMR.WAIT_FULL` and `TMR.WAIT_HALF`: the reset; the foreground then polls (42 R87, R88; log 5).
DESIGN CHOICE (log 32): begun while another bare wait is in progress it takes that wait's place, a case 42 R87 does not give. -/
def tmrWait (k : WaitKind) (s : State) : State := (tmrReset s).setWait (some k)

/-- One poll of a wait: "each evaluation is its own atomic step" (42 R87, R88; log 5). -/
def pollWait (k : WaitKind) (s : State) : State :=
  if reached (waitThreshold k s) s then s.setWait none else s

/-! ## Display multiplexer (43_display_multiplexer) -/

/-- `DISP.SET` (43 R91): both bytes in one step. -/
def dispSet (l r : Seg) (s : State) : State := s.setDisp { dispL := leftByte l, dispR := rightByte r }

/-- `DISP.RENDER` (43 R92). -/
def dispRender (P : Params) (idx : BarIdx) (s : State) : State :=
  dispSet (barPatterns P idx).1 (barPatterns P idx).2 s

/-- `DISP.BLANK` = `DISP.RENDER 4` (43 R93). -/
def dispBlank (P : Params) (s : State) : State := dispRender P 4 s

/-- What `DISP.TICK` writes when no transfer is in flight (43 R94): the selected byte is handed to the transport. -/
def shipByte (s : State) : State :=
  (s.setMux { dispSel := !s.mux.dispSel, txByte := if s.mux.dispSel then s.disp.dispR else s.disp.dispL, xferBusy := true }).setStrobes
    { s.strobes with spiStart := true }

/-- `DISP.TICK` (43 R94). -/
def dispTick (s : State) : Answer :=
  match s.mux.xferBusy with
  | true => .fault .transferOverrun
  | false => .next (shipByte s)

/-- The display side after a latch (43 R95, R96): the byte is visible and its digit is driven. -/
def latchPanel (b : Byte) (p : Panel) : Panel where
  vis := b
  digLeft := if b.getLsbD 7 then segField b else p.digLeft
  digRight := if b.getLsbD 7 then p.digRight else segField b

/-- `DISP.LATCH` (43 R95). -/
def dispLatch (s : State) : State :=
  ((s.setMux { s.mux with xferBusy := false }).setPanel (latchPanel s.mux.txByte s.panel)).setStrobes
    { s.strobes with dispLatch := true }

/-- `DISP.DIGITS` (43 R97): the score in two digits; a tens digit above 10 has no table entry. -/
def dispDigits (P : Params) (n : Byte) (s : State) : Answer :=
  match segOfDigit P (tensDigit n), segOfDigit P (onesDigit n) with
  | some l, some r => .next (dispSet l r s)
  | _, _ => .fault .digitOutOfTable

/-! ## Tone generator (44_tone_generator) -/

/-- `TONE.ON` (44 R99). -/
def toneOn (P : Params) (i : LB) (s : State) : State :=
  s.setTone { pwmPer := tonePeriod P i s.oct, pwmCmp := toneCompare (tonePeriod P i s.oct) }

/-- `TONE.OFF` (44 R100). -/
def toneOff (s : State) : State := s.setTone { s.tone with pwmCmp := 0 }

/-- `OCT.INC` (44 R101). -/
def octInc (s : State) : State := s.setOct (octaveUp s.oct)

/-- `OCT.DEC` (44 R102). -/
def octDec (s : State) : State := s.setOct (octaveDown s.oct)

/-- `PWM.CLK` (44 R103): not gated by `IE`. -/
def pwmClk (s : State) : State :=
  s.setWave { pwmCnt := waveCount s.tone s.wave, toneOut := waveOut s.tone (waveCount s.tone s.wave) }

/-! ## Serial keys (46_serial_input) -/

/-- `KEY.PRESS` (46 R124): "only honored while GameStage == PLAYER". -/
def keyPress (i : LB) (s : State) : State :=
  if s.game.stage = .player then s.setKey { keyp := true, keyb := i } else s

/-- `KEY.CLEAR` (46 R137): in every stage; `KEYB` keeps its value. -/
def keyClear (s : State) : State := s.setKey { s.key with keyp := false }

/-- The dispatch of `EV.RX` on the received character (46 R124). -/
def rxCommand (c : Byte) (s : State) : State :=
  match decodeRxChar c with
  | .rxDigit1 | .rxQ => keyPress 0 s
  | .rxDigit2 | .rxW => keyPress 1 s
  | .rxDigit3 | .rxE => keyPress 2 s
  | .rxDigit4 | .rxR => keyPress 3 s
  | .rxComma | .rxK => octDec s
  | .rxPeriod | .rxL => octInc s
  | _ => keyClear s

/-! ## Handlers (60_exceptions R144 to R147): what each does once its event is taken -/

/-- The 1 ms tick (60 R144). -/
def handleT1 (s : State) : Answer := .next (tmrTick s)

/-- The 5 ms tick (60 R145): debounce, then display; if the display step faults, "the whole step faults". -/
def handleT5 (P : Params) (raw : Byte) (s : State) : Answer := dispTick (dbTick P raw s)

/-- Transport complete (60 R146). -/
def handleXd (s : State) : Answer := .next (dispLatch s)

/-- A character (60 R147). -/
def handleRx (c : Byte) (s : State) : Answer := .next (rxCommand c s)

end Sys2Proof.Machine
end

