-- ==== Sys2Proof/Machine/Buttons.lean ====
section
/-! DEFINITION. The debouncer's and the edge detector's `OPSEL` rows (41_debounce_edge R76, R79). -/
namespace Sys2Proof.Machine

/-- `DB.TICK` (41 R76). -/
def execDbTick (raw : Byte) (s : State) : Answer := .next (dbTick Config.params raw s)

/-- `EDGE.SAMPLE` (41 R79). -/
def execEdgeSample (s : State) : Answer := .next (edgeSample s)

end Sys2Proof.Machine
end

