-- ==== Sys2Proof/Machine/Display.lean ====
section
/-! DEFINITION. The display multiplexer's `OPSEL` rows and the pseudo-operation (43_display_multiplexer R91 to R97). -/
namespace Sys2Proof.Machine

/-- `DISP.SET` (43 R91). -/
def execDispSet (l r : Seg) (s : State) : Answer := .next (dispSet l r s)

/-- `DISP.RENDER` (43 R92). -/
def execDispRender (idx : BarIdx) (s : State) : Answer := .next (dispRender Config.params idx s)

/-- `DISP.TICK` (43 R94). -/
def execDispTick (s : State) : Answer := dispTick s

/-- `DISP.LATCH` (43 R95). -/
def execDispLatch (s : State) : Answer := .next (dispLatch s)

/-- `DISP.DIGITS` (43 R97). -/
def execDispDigits (n : Byte) (s : State) : Answer := dispDigits Config.params n s

/-- `DISP.BLANK` (43 R93). -/
def execDispBlank (s : State) : Answer := .next (dispBlank Config.params s)

end Sys2Proof.Machine
end

