-- ==== Sys2Proof/Machine/Micro.lean ====
section
/-! DEFINITION. The foreground's micro-steps (45_gameplay R106 to R121) and one foreground step (R105). -/
namespace Sys2Proof.Machine

/-- `FG_PH <- ph`. -/
def goPhase (ph : Phase) (s : State) : State := s.setGame { s.game with fgPh := ph }

/-- `FG.BOOT` (45 R106). -/
def microBoot (s : State) : State := goPhase .top (s.setIe true)

/-- The phase `FG.TOP` dispatches a stage to (45 R107). -/
def stagePhase : Stage → Phase
  | .init => .init | .simon => .simPrep | .player => .plySub | .success => .sucShow | .fail => .failShow

/-- `FG.TOP` (45 R107). -/
def microTop (s : State) : State := goPhase (stagePhase s.game.stage) (edgeSample s)

/-- `FG.INIT` (45 R108). -/
def microInit (s : State) : State := s.setGame { s.game with seqLen := 1, stage := .simon, fgPh := .top }

/-- `FG.SIM_PREP` (45 R109): "the stage machine re-polls every main-loop pass" while the sample is not ready. -/
def microSimPrep (adcReady : Bool) (adcSample : Byte) (s : State) : State :=
  let t := tmrPrepare adcReady adcSample (lfsrSeed s)
  match t.time.delayReady with
  | true => t.setGame { t.game with playIdx := 0, fgPh := .simNext }
  | false => goPhase .top t

/-- What `FG.SIM_NEXT` does to play the next step (45 R110). -/
def playStep (P : Params) (s : State) : State :=
  let t := lfsrAdvance P s
  tmrReset (dispRender P (t.seq.stepVal.setWidth 3) (toneOn P t.seq.stepVal t))

/-- `FG.SIM_NEXT` (45 R110). -/
def microSimNext (P : Params) (s : State) : State :=
  if s.game.playIdx = s.game.seqLen then goPhase .simDone s else goPhase .simOnWait (playStep P s)

/-- `FG.SIM_ON_WAIT` (45 R111). -/
def microSimOnWait (P : Params) (s : State) : State :=
  if reached (halfDelay s.time) s then goPhase .simOffWait (tmrReset (dispBlank P (toneOff s))) else s

/-- `FG.SIM_OFF_WAIT` (45 R112). -/
def microSimOffWait (s : State) : State :=
  if reached (halfDelay s.time) s then
    s.setGame { s.game with playIdx := s.game.playIdx + 1, fgPh := .simNext }
  else s

/-- `FG.SIM_DONE` (45 R113). -/
def microSimDone (s : State) : State :=
  let t := lfsrSeed s
  t.setGame { t.game with slot := .wait, stage := .player, fgPh := .top }

/-- The button the WAIT scan recognises: the first of 0, 1, 2, 3 with a press edge or a pending key (45 R114). -/
def scanPress (P : Params) (s : State) : Option LB :=
  [0, 1, 2, 3].find? fun i => pressEdge P s i || keyFor s i

/-- What recognising a press of button `i` does (45 R114). -/
def recognise (P : Params) (i : LB) (s : State) : State :=
  let t := tmrReset (lfsrAdvance P s)
  let u := t.setGame
    { t.game with
      inputCnt := t.game.inputCnt + 1
      srcKey := keyFor s i && !pressEdge P s i
      released := false
      slot := Slot.held i }
  if keyFor s i then u.setKey { u.key with keyp := false } else u

/-- `FG.PLY_SUB` with `SLOT` = WAIT (45 R114). -/
def microPlyWait (P : Params) (s : State) : State :=
  goPhase .plyPost (match scanPress P s with
    | some i => recognise P i s
    | none => s)

/-- The held sub-state up to the release latch: tone, bar, judgement, release (45 R115). -/
def holdButton (P : Params) (i : LB) (s : State) : State :=
  let t := dispRender P (i.setWidth 3) (toneOn P i s)
  t.setGame
    { t.game with
      incorrect := t.game.incorrect || decide (i ≠ s.seq.stepVal)
      released := t.game.released || releaseEdge P s i || t.game.srcKey }

/-- The end of a held input: silence, blank, one input consumed, slot WAIT (45 R115). -/
def finishInput (P : Params) (s : State) : State :=
  let t := dispBlank P (toneOff s)
  t.setGame { t.game with consumed := true, slot := .wait }

/-- `FG.PLY_SUB` with `SLOT` = `B(i+1)` (45 R115): one non-blocking test a pass. -/
def microPlyHeld (P : Params) (i : LB) (s : State) : State :=
  let t := holdButton P i s
  goPhase .plyPost (if t.game.released && reached (halfDelay t.time) t then finishInput P t else t)

/-- `FG.PLY_SUB`: by `SLOT` (45 R105). -/
def microPlySub (P : Params) (s : State) : State :=
  match s.game.slot with
  | .wait => microPlyWait P s
  | .b1 => microPlyHeld P 0 s
  | .b2 => microPlyHeld P 1 s
  | .b3 => microPlyHeld P 2 s
  | .b4 => microPlyHeld P 3 s

/-- What `FG.PLY_POST` makes of the gameplay registers when one input was consumed (45 R116). -/
def judgeRound (g : Game) : Game :=
  if g.incorrect then { g with consumed := false, incorrect := false, inputCnt := 0, stage := .fail }
  else if g.inputCnt = g.seqLen then { g with consumed := false, inputCnt := 0, stage := .success }
  else { g with consumed := false }

/-- `FG.PLY_POST` (45 R116). -/
def microPlyPost (s : State) : State :=
  goPhase .top (if s.game.consumed then s.setGame (judgeRound s.game) else s)

/-- `FG.SUC_SHOW` (45 R117). -/
def microSucShow (P : Params) (s : State) : State :=
  goPhase .sucWait (tmrReset (dispSet P.patSuccessL P.patSuccessR s))

/-- `FG.SUC_WAIT` (45 R118): `SEQ_LEN` is 8 bits, 255 + 1 is 0 (70 R170). -/
def microSucWait (P : Params) (s : State) : State :=
  if reached s.time.playbackDelay s then
    let t := dispBlank P s
    t.setGame { t.game with seqLen := t.game.seqLen + 1, stage := .simon, fgPh := .top }
  else s

/-- `FG.FAIL_SHOW` (45 R119). -/
def microFailShow (P : Params) (s : State) : State :=
  goPhase .failWait1 (tmrReset (dispSet P.patFailL P.patFailR s))

/-- `FG.FAIL_WAIT1` (45 R120): the score is `SEQ_LEN`. -/
def microFailWait1 (P : Params) (s : State) : Answer :=
  if reached s.time.playbackDelay s then
    onNext (dispDigits P s.game.seqLen s) fun t => goPhase .failWait2 (tmrReset t)
  else .next s

/-- `FG.FAIL_WAIT2` (45 R121): blank, advance once more, save the resume seed. -/
def microFailWait2 (P : Params) (s : State) : State :=
  if reached s.time.playbackDelay s then
    let t := lfsrSave (lfsrAdvance P (dispBlank P s))
    t.setGame { t.game with stage := .init, fgPh := .top }
  else s

/-- The micro-step `FG_PH` (and, in `PLY_SUB`, `SLOT`) selects (45 R105). -/
def microStep (P : Params) (adcReady : Bool) (adcSample : Byte) (s : State) : Answer :=
  match s.game.fgPh with
  | .boot => .next (microBoot s)
  | .top => .next (microTop s)
  | .init => .next (microInit s)
  | .simPrep => .next (microSimPrep adcReady adcSample s)
  | .simNext => .next (microSimNext P s)
  | .simOnWait => .next (microSimOnWait P s)
  | .simOffWait => .next (microSimOffWait s)
  | .simDone => .next (microSimDone s)
  | .plySub => .next (microPlySub P s)
  | .plyPost => .next (microPlyPost s)
  | .sucShow => .next (microSucShow P s)
  | .sucWait => .next (microSucWait P s)
  | .failShow => .next (microFailShow P s)
  | .failWait1 => microFailWait1 P s
  | .failWait2 => .next (microFailWait2 P s)

/-- One step of agent `FG`: the selected micro-step (45 R105), or, while a bare wait blocks the foreground, one poll of it
(42 R87, R88: "block the caller (busy-poll, no yielding to other logic)"; log 5). A bare operation presented meanwhile is no
step of agent `FG` and does not come here (log 32). -/
def foregroundStep (P : Params) (adcReady : Bool) (adcSample : Byte) (s : State) : Answer :=
  match s.wait with
  | some k => .next (pollWait k s)
  | none => microStep P adcReady adcSample s

end Sys2Proof.Machine
end

