-- ==== Sys2Proof/Machine/Events.lean ====
section
/-! DEFINITION. The `EVENT` rows (30_encoding R66): one step of each agent. -/
namespace Sys2Proof.Machine

/-- `FG.STEP` (45 R105): not an event, so not gated by `IE`. -/
def execFgStep (adcReady : Bool) (adcSample : Byte) (s : State) : Answer :=
  foregroundStep Config.params adcReady adcSample s

/-- `EV.T1` (60 R144). -/
def execEvT1 (s : State) : Answer := takeEvent handleT1 s

/-- `EV.T5` (60 R145). -/
def execEvT5 (btnRaw : Byte) (s : State) : Answer := takeEvent (handleT5 Config.params btnRaw) s

/-- `EV.XD` (60 R146). -/
def execEvXd (s : State) : Answer := takeEvent handleXd s

/-- `EV.RX` (60 R147). -/
def execEvRx (rxChar : Byte) (s : State) : Answer := takeEvent (handleRx rxChar) s

/-- `PWM.CLK` as an event (44 R103): "`pwm_clk` is not gated by `IE`". -/
def execEvPwmClk (s : State) : Answer := .next (pwmClk s)

end Sys2Proof.Machine
end

