-- ==== Sys2Proof/Machine/Foreground.lean ====
section
/-! DEFINITION. The `FGPH` rows (30_encoding R59): each micro-step as its rule gives it. Which one the foreground takes is
selected by `FG_PH` and `SLOT` in `FG.STEP`; a row performed by itself does not test them again (log 12). -/
namespace Sys2Proof.Machine

/-- `FG.BOOT` (45 R106). -/
def execFgBoot (s : State) : Answer := .next (microBoot s)

/-- `FG.TOP` (45 R107). -/
def execFgTop (s : State) : Answer := .next (microTop s)

/-- `FG.INIT` (45 R108). -/
def execFgInit (s : State) : Answer := .next (microInit s)

/-- `FG.SIM_PREP` (45 R109). -/
def execFgSimPrep (adcReady : Bool) (adcSample : Byte) (s : State) : Answer :=
  .next (microSimPrep adcReady adcSample s)

/-- `FG.SIM_NEXT` (45 R110). -/
def execFgSimNext (s : State) : Answer := .next (microSimNext Config.params s)

/-- `FG.SIM_ON_WAIT` (45 R111). -/
def execFgSimOnWait (s : State) : Answer := .next (microSimOnWait Config.params s)

/-- `FG.SIM_OFF_WAIT` (45 R112). -/
def execFgSimOffWait (s : State) : Answer := .next (microSimOffWait s)

/-- `FG.SIM_DONE` (45 R113). -/
def execFgSimDone (s : State) : Answer := .next (microSimDone s)

/-- `FG.PLY_SUB` with `SLOT` = WAIT (45 R114). -/
def execFgPlySubWait (s : State) : Answer := .next (microPlyWait Config.params s)

/-- `FG.PLY_SUB` with `SLOT` = B1 (45 R115). -/
def execFgPlySubB1 (s : State) : Answer := .next (microPlyHeld Config.params 0 s)

/-- `FG.PLY_SUB` with `SLOT` = B2 (45 R115). -/
def execFgPlySubB2 (s : State) : Answer := .next (microPlyHeld Config.params 1 s)

/-- `FG.PLY_SUB` with `SLOT` = B3 (45 R115). -/
def execFgPlySubB3 (s : State) : Answer := .next (microPlyHeld Config.params 2 s)

/-- `FG.PLY_SUB` with `SLOT` = B4 (45 R115). -/
def execFgPlySubB4 (s : State) : Answer := .next (microPlyHeld Config.params 3 s)

/-- `FG.PLY_POST` (45 R116). -/
def execFgPlyPost (s : State) : Answer := .next (microPlyPost s)

/-- `FG.SUC_SHOW` (45 R117). -/
def execFgSucShow (s : State) : Answer := .next (microSucShow Config.params s)

/-- `FG.SUC_WAIT` (45 R118). -/
def execFgSucWait (s : State) : Answer := .next (microSucWait Config.params s)

/-- `FG.FAIL_SHOW` (45 R119). -/
def execFgFailShow (s : State) : Answer := .next (microFailShow Config.params s)

/-- `FG.FAIL_WAIT1` (45 R120). -/
def execFgFailWait1 (s : State) : Answer := microFailWait1 Config.params s

/-- `FG.FAIL_WAIT2` (45 R121). -/
def execFgFailWait2 (s : State) : Answer := .next (microFailWait2 Config.params s)

end Sys2Proof.Machine
end

