-- ==== Sys2Proof/Machine/Generator.lean ====
section
/-! DEFINITION. The sequence generator's `OPSEL` rows (40_sequence_generator R72 to R74). -/
namespace Sys2Proof.Machine

/-- `LFSR.ADVANCE` (40 R72). -/
def execLfsrAdvance (s : State) : Answer := .next (lfsrAdvance Config.params s)

/-- `LFSR.SEED` (40 R73). -/
def execLfsrSeed (s : State) : Answer := .next (lfsrSeed s)

/-- `LFSR.SAVE` (40 R74). -/
def execLfsrSave (s : State) : Answer := .next (lfsrSave s)

end Sys2Proof.Machine
end

