-- ==== Sys2Proof/Machine/Keys.lean ====
section
/-! DEFINITION. The serial keys' `OPSEL` rows (46_serial_input R124, R137). -/
namespace Sys2Proof.Machine

/-- `KEY.PRESS` (46 R124). -/
def execKeyPress (i : LB) (s : State) : Answer := .next (keyPress i s)

/-- `KEY.CLEAR` (46 R137). -/
def execKeyClear (s : State) : Answer := .next (keyClear s)

end Sys2Proof.Machine
end

