-- ==== Sys2Proof/Machine/Serial.lean ====
section
/-! DEFINITION. The `RXCHAR` rows (46_serial_input R125 to R137). `RX 'c'` is "`EV.RX` with `rx_char` = the code" (30_encoding R70), so each is
taken as an event: with `IE` = 0 "no character has any effect" (95 2.8; log 11). -/
namespace Sys2Proof.Machine

/-- `RX '1'` (46 R125). -/
def execRxDigit1 (s : State) : Answer := takeEvent (fun t => .next (keyPress 0 t)) s

/-- `RX 'q'` (46 R126). -/
def execRxQ (s : State) : Answer := takeEvent (fun t => .next (keyPress 0 t)) s

/-- `RX '2'` (46 R127). -/
def execRxDigit2 (s : State) : Answer := takeEvent (fun t => .next (keyPress 1 t)) s

/-- `RX 'w'` (46 R128). -/
def execRxW (s : State) : Answer := takeEvent (fun t => .next (keyPress 1 t)) s

/-- `RX '3'` (46 R129). -/
def execRxDigit3 (s : State) : Answer := takeEvent (fun t => .next (keyPress 2 t)) s

/-- `RX 'e'` (46 R130). -/
def execRxE (s : State) : Answer := takeEvent (fun t => .next (keyPress 2 t)) s

/-- `RX '4'` (46 R131). -/
def execRxDigit4 (s : State) : Answer := takeEvent (fun t => .next (keyPress 3 t)) s

/-- `RX 'r'` (46 R132). -/
def execRxR (s : State) : Answer := takeEvent (fun t => .next (keyPress 3 t)) s

/-- `RX ','` (46 R133). -/
def execRxComma (s : State) : Answer := takeEvent (fun t => .next (octDec t)) s

/-- `RX 'k'` (46 R134). -/
def execRxK (s : State) : Answer := takeEvent (fun t => .next (octDec t)) s

/-- `RX '.'` (46 R135). -/
def execRxPeriod (s : State) : Answer := takeEvent (fun t => .next (octInc t)) s

/-- `RX 'l'` (46 R136). -/
def execRxL (s : State) : Answer := takeEvent (fun t => .next (octInc t)) s

/-- `RX other` = `KEY.CLEAR` (46 R137); the character itself is not used. -/
def execRxOther (_c : Byte) (s : State) : Answer := takeEvent (fun t => .next (keyClear t)) s

end Sys2Proof.Machine
end

