-- ==== Sys2Proof/Machine/Timing.lean ====
section
/-! DEFINITION. The timing service's `OPSEL` rows (42_timing_service R82 to R88). A bit that an operation returns is left in `ret` (log 6). -/
namespace Sys2Proof.Machine

/-- `TMR.TICK` (42 R82). -/
def execTmrTick (s : State) : Answer := .next (tmrTick s)

/-- `TMR.RESET` (42 R83). -/
def execTmrReset (s : State) : Answer := .next (tmrReset s)

/-- `TMR.REACHED` (42 R84): "Returns one bit and writes nothing" (log 6). -/
def execTmrReached (th : Half) (s : State) : Answer := .next (s.setRet (reached th s))

/-- `TMR.PREPARE` (42 R85). -/
def execTmrPrepare (adcReady : Bool) (adcSample : Byte) (s : State) : Answer :=
  .next ((tmrPrepare adcReady adcSample s).setRet adcReady)

/-- `TMR.WAIT_FULL` (42 R87). -/
def execTmrWaitFull (s : State) : Answer := .next (tmrWait .full s)

/-- `TMR.WAIT_HALF` (42 R88). -/
def execTmrWaitHalf (s : State) : Answer := .next (tmrWait .half s)

end Sys2Proof.Machine
end

