-- ==== Sys2Proof/Machine/ToneUnit.lean ====
section
/-! DEFINITION. The tone generator's `OPSEL` rows (44_tone_generator R99 to R103). -/
namespace Sys2Proof.Machine

/-- `TONE.ON` (44 R99). -/
def execToneOn (i : LB) (s : State) : Answer := .next (toneOn Config.params i s)

/-- `TONE.OFF` (44 R100). -/
def execToneOff (s : State) : Answer := .next (toneOff s)

/-- `OCT.INC` (44 R101). -/
def execOctInc (s : State) : Answer := .next (octInc s)

/-- `OCT.DEC` (44 R102). -/
def execOctDec (s : State) : Answer := .next (octDec s)

/-- `PWM.CLK` (44 R103). -/
def execOpPwmClk (s : State) : Answer := .next (pwmClk s)

end Sys2Proof.Machine
end

