-- ==== Sys2Proof/Machine/Dispatch.lean ====
section
/-! DEFINITION. The meaning of every instruction: one arm per row of spec/opcode_table.json. -/
namespace Sys2Proof.Machine

def exec (i : Instr) (s : State) : Host.Outcome State Fault Refusal :=
  match i with
  | .rxDigit1 => Sys2Proof.Machine.execRxDigit1 s
  | .rxQ => Sys2Proof.Machine.execRxQ s
  | .rxDigit2 => Sys2Proof.Machine.execRxDigit2 s
  | .rxW => Sys2Proof.Machine.execRxW s
  | .rxDigit3 => Sys2Proof.Machine.execRxDigit3 s
  | .rxE => Sys2Proof.Machine.execRxE s
  | .rxDigit4 => Sys2Proof.Machine.execRxDigit4 s
  | .rxR => Sys2Proof.Machine.execRxR s
  | .rxComma => Sys2Proof.Machine.execRxComma s
  | .rxK => Sys2Proof.Machine.execRxK s
  | .rxPeriod => Sys2Proof.Machine.execRxPeriod s
  | .rxL => Sys2Proof.Machine.execRxL s
  | .rxOther c => Sys2Proof.Machine.execRxOther c s
  | .fgStep adcReady adcSample => Sys2Proof.Machine.execFgStep adcReady adcSample s
  | .evT1 => Sys2Proof.Machine.execEvT1 s
  | .evT5 btnRaw => Sys2Proof.Machine.execEvT5 btnRaw s
  | .evXd => Sys2Proof.Machine.execEvXd s
  | .evRx rxChar => Sys2Proof.Machine.execEvRx rxChar s
  | .evPwmClk => Sys2Proof.Machine.execEvPwmClk s
  | .fgBoot => Sys2Proof.Machine.execFgBoot s
  | .fgTop => Sys2Proof.Machine.execFgTop s
  | .fgInit => Sys2Proof.Machine.execFgInit s
  | .fgSimPrep adcReady adcSample => Sys2Proof.Machine.execFgSimPrep adcReady adcSample s
  | .fgSimNext => Sys2Proof.Machine.execFgSimNext s
  | .fgSimOnWait => Sys2Proof.Machine.execFgSimOnWait s
  | .fgSimOffWait => Sys2Proof.Machine.execFgSimOffWait s
  | .fgSimDone => Sys2Proof.Machine.execFgSimDone s
  | .fgPlySubWait => Sys2Proof.Machine.execFgPlySubWait s
  | .fgPlySubB1 => Sys2Proof.Machine.execFgPlySubB1 s
  | .fgPlySubB2 => Sys2Proof.Machine.execFgPlySubB2 s
  | .fgPlySubB3 => Sys2Proof.Machine.execFgPlySubB3 s
  | .fgPlySubB4 => Sys2Proof.Machine.execFgPlySubB4 s
  | .fgPlyPost => Sys2Proof.Machine.execFgPlyPost s
  | .fgSucShow => Sys2Proof.Machine.execFgSucShow s
  | .fgSucWait => Sys2Proof.Machine.execFgSucWait s
  | .fgFailShow => Sys2Proof.Machine.execFgFailShow s
  | .fgFailWait1 => Sys2Proof.Machine.execFgFailWait1 s
  | .fgFailWait2 => Sys2Proof.Machine.execFgFailWait2 s
  | .lfsrAdvance => Sys2Proof.Machine.execLfsrAdvance s
  | .lfsrSeed => Sys2Proof.Machine.execLfsrSeed s
  | .lfsrSave => Sys2Proof.Machine.execLfsrSave s
  | .dbTick raw => Sys2Proof.Machine.execDbTick raw s
  | .edgeSample => Sys2Proof.Machine.execEdgeSample s
  | .tmrTick => Sys2Proof.Machine.execTmrTick s
  | .tmrReset => Sys2Proof.Machine.execTmrReset s
  | .tmrReached th => Sys2Proof.Machine.execTmrReached th s
  | .tmrPrepare adcReady adcSample => Sys2Proof.Machine.execTmrPrepare adcReady adcSample s
  | .tmrWaitFull => Sys2Proof.Machine.execTmrWaitFull s
  | .tmrWaitHalf => Sys2Proof.Machine.execTmrWaitHalf s
  | .dispSet l r => Sys2Proof.Machine.execDispSet l r s
  | .dispRender idx => Sys2Proof.Machine.execDispRender idx s
  | .dispTick => Sys2Proof.Machine.execDispTick s
  | .dispLatch => Sys2Proof.Machine.execDispLatch s
  | .dispDigits n => Sys2Proof.Machine.execDispDigits n s
  | .toneOn k => Sys2Proof.Machine.execToneOn k s
  | .toneOff => Sys2Proof.Machine.execToneOff s
  | .octInc => Sys2Proof.Machine.execOctInc s
  | .octDec => Sys2Proof.Machine.execOctDec s
  | .opPwmClk => Sys2Proof.Machine.execOpPwmClk s
  | .keyPress k => Sys2Proof.Machine.execKeyPress k s
  | .keyClear => Sys2Proof.Machine.execKeyClear s
  | .dispBlank => Sys2Proof.Machine.execDispBlank s

end Sys2Proof.Machine
end

