-- ==== Sys2Proof/Machine/Fetch.lean ====
section
/-! DEFINITION. What the next step is: the block fetches no instruction (20_memory R54), so the next instruction is selected by
what the environment presents (30_encoding R66); and where a table word is placed so that the next step runs it. -/
namespace Sys2Proof.Machine

/-- The bytes of the `EVENT` instruction of an agent's step, with the operand port it samples (30_encoding R66). -/
def eventBytes (p : InPorts) (a : Agent) : List Byte :=
  a.eventCode.setWidth 8 ::
    match a with
    | .fg => [bitByte p.adcReady, p.adcSample]
    | .t5 => [p.btnRaw]
    | .rx => [p.rxChar]
    | .t1 | .xd | .pc => []

/-- What a step takes up: the reset step, or an instruction's format and bytes, with the state it runs in. -/
inductive Fetched where
  | reset (s : State)
  | code (f : Format) (bytes : List Byte) (s : State)
  deriving DecidableEq, Repr

/-- The agent taken first of several presented together: any of them (60_exceptions R143; log 3), but `XD` before a `T5` that
would otherwise overrun ("must be taken `EV.XD` first"). -/
def firstOf (agents : List Agent) (s : State) : Agent :=
  let a := (agents[Config.eventOrder s.draws % agents.length]?).getD .fg
  if a = .t5 ∧ .xd ∈ agents ∧ s.mux.xferBusy = true ∧ s.ie = true then .xd else a

/-- What presented ports select (30_encoding R66; 70 R158: reset "has priority over every other step presented with it"). Several
strobes are taken one at a time: one now, the rest presented again. -/
def present (p : InPorts) (s : State) : Fetched :=
  if p.rst then .reset s
  else
    match p.agents with
    | [] => .code .event (eventBytes p .fg) s
    | [a] => .code .event (eventBytes p a) s
    | a :: b :: rest =>
      let first := firstOf (a :: b :: rest) s
      .code .event (eventBytes p first) ((s.setTrace (.ports (p.clear first) :: s.trace)).setDraws (s.draws + 1))

/-- The next step's instruction: of the next line, or of a free draw when no line is left (log 2). The output strobes of the step
before end (10_state R38; log 7). DESIGN CHOICE (log 32): a bare operation's line is taken at once also while a bare wait is in
progress, for which 42 R87 gives no such case; only foreground steps poll the wait. -/
def fetch (s : State) : Fetched :=
  let t := s.setStrobes .low
  match s.trace with
  | [] => present (Config.env s.draws) (t.setDraws (s.draws + 1))
  | .ports p :: rest => present p (t.setTrace rest)
  | .op bytes :: rest => .code .opsel bytes (t.setTrace rest)

/-- A line put before all others. -/
def pushLine (l : Line) (s : State) : State := s.setTrace (l :: s.trace)

/-- The ports that make an agent's `EVENT` instruction the next step, its operand on its port (30_encoding R66). -/
def portsFor : Instr → InPorts
  | .fgStep r v => { adcReady := r, adcSample := v }
  | .evT1 => { tick1 := true }
  | .evT5 raw => { tick5 := true, btnRaw := raw }
  | .evXd => { xferDone := true }
  | .evRx c => { rxValid := true, rxChar := c }
  | .evPwmClk => { pwmClk := true }
  | .fgSimPrep r v => { adcReady := r, adcSample := v }
  | i => if formatOf i = .rxchar then { rxValid := true, rxChar := codeOf i } else {}

/-- `FG_PH` and `SLOT` as a micro-step's row selects them (30_encoding R59); `SLOT` is a don't-care but in `PLY_SUB`. -/
def selectMicro (i : Instr) (g : Game) : Game :=
  match i with
  | .fgBoot => { g with fgPh := .boot }
  | .fgTop => { g with fgPh := .top }
  | .fgInit => { g with fgPh := .init }
  | .fgSimPrep _ _ => { g with fgPh := .simPrep }
  | .fgSimNext => { g with fgPh := .simNext }
  | .fgSimOnWait => { g with fgPh := .simOnWait }
  | .fgSimOffWait => { g with fgPh := .simOffWait }
  | .fgSimDone => { g with fgPh := .simDone }
  | .fgPlySubWait => { g with fgPh := .plySub, slot := .wait }
  | .fgPlySubB1 => { g with fgPh := .plySub, slot := .b1 }
  | .fgPlySubB2 => { g with fgPh := .plySub, slot := .b2 }
  | .fgPlySubB3 => { g with fgPh := .plySub, slot := .b3 }
  | .fgPlySubB4 => { g with fgPh := .plySub, slot := .b4 }
  | .fgPlyPost => { g with fgPh := .plyPost }
  | .fgSucShow => { g with fgPh := .sucShow }
  | .fgSucWait => { g with fgPh := .sucWait }
  | .fgFailShow => { g with fgPh := .failShow }
  | .fgFailWait1 => { g with fgPh := .failWait1 }
  | .fgFailWait2 => { g with fgPh := .failWait2 }
  | _ => g

/-- All that it takes for the next step to run an instruction (log 10): an event's ports; a character's ports with events enabled;
a micro-step's phase and slot with no wait in progress and a foreground step; a bare operation's line. -/
def placeInstr (i : Instr) (bytes : List Byte) (s : State) : State :=
  match formatOf i with
  | .event | .stim => pushLine (.ports (portsFor i)) s
  | .rxchar => pushLine (.ports (portsFor i)) (s.setIe true)
  | .fgph => pushLine (.ports (portsFor i)) ((s.setGame (selectMicro i s.game)).setWait none)
  | .opsel => pushLine (.op bytes) s

/-- A table word placed for the next step; a word that is no instruction is placed as an operation line, which `step` refuses. -/
def placeWord (s : State) (nbits w : Nat) : State :=
  match decodeTableWord nbits w with
  | some i => placeInstr i (tableBytes nbits w) s
  | none => pushLine (.op (tableBytes nbits w)) s

/-- One step on what was fetched. -/
def runFetched (x : Fetched) : Answer :=
  match x with
  | .reset s => .next (resetStep Config.params s)
  | .code f bytes s =>
    match decode f bytes with
    | .ok i => exec i s
    | .error e => .refused (.noInstruction e)

end Sys2Proof.Machine
end

