-- ==== Sys2Proof/Machine/Step.lean ====
section
/-! DEFINITION. One step of the machine, and placing an instruction where the next step takes it up. -/
namespace Sys2Proof.Machine

/-- One atomic step (00_scope R4): fetch what is presented, decode, execute. -/
def step (s : State) : Host.Outcome State Fault Refusal := runFetched (fetch s)

/-- The state in which the next step runs the table word `w` (log 10). -/
def State.withFetchWord (s : State) (nbits w : Nat) : State := placeWord s nbits w

end Sys2Proof.Machine
end

