-- ==== Sys2Proof/Safety.lean ====
section
/-! DEFINITION. The terms the statements use: completing a step, chains of instructions, the block's invariants. -/
namespace Sys2Proof.Safety

open Sys2Proof.Machine

/-- An answer is a next state. -/
def Completes (a : Answer) : Prop := ∃ t, a = .next t

/-- Run one thing after another, stopping at the first fault or refusal. -/
def andThen (a : Answer) (f : State → Answer) : Answer :=
  match a with
  | .next t => f t
  | .fault r => .fault r
  | .refused r => .refused r

/-- Instructions one after another. -/
def execAll : List Instr → State → Answer
  | [], s => .next s
  | i :: is, s => andThen (exec i s) (execAll is)

/-- The generator's state after `k` advances. -/
def advanced (mask : Word) : Nat → Word → Word
  | 0, x => x
  | k + 1, x => lfsrNext mask (advanced mask k x)

/-- The `EVENT` instruction of an agent's step on presented ports (30_encoding R66). -/
def agentInstr (p : InPorts) : Agent → Instr
  | .fg => .fgStep p.adcReady p.adcSample
  | .t1 => .evT1
  | .t5 => .evT5 p.btnRaw
  | .xd => .evXd
  | .rx => .evRx p.rxChar
  | .pc => .evPwmClk

/-- The state a line's step runs in: the line is taken, the strobes of the step before are low. -/
def afterLine (s : State) (rest : List Line) : State := { s with trace := rest, strobes := .low }

/-- The `FGPH` code of a state, `FG_PH` above `SLOT` (30_encoding R59). -/
def fgphCode (g : Game) : Byte := (0 : BitVec 1) ++ (g.fgPh.code ++ g.slot.code)

/-- The steps of the four event handlers, characters included. -/
def isHandler : Instr → Bool
  | .evT1 | .evT5 _ | .evXd | .evRx _ => true
  | i => formatOf i = .rxchar

/-- The foreground polls in this phase (45 R105). -/
def isPollPhase : Phase → Bool
  | .simOnWait | .simOffWait | .sucWait | .failWait1 | .failWait2 => true
  | .boot | .top | .init | .simPrep | .simNext | .simDone | .plySub | .plyPost | .sucShow | .failShow => false

/-- The edges of the phase graph (45 R122). -/
def phaseEdge : Phase → List Phase
  | .boot => [.top]
  | .top => [.init, .simPrep, .plySub, .sucShow, .failShow]
  | .init => [.top]
  | .simPrep => [.simNext, .top]
  | .simNext => [.simOnWait, .simDone]
  | .simOnWait => [.simOnWait, .simOffWait]
  | .simOffWait => [.simOffWait, .simNext]
  | .simDone => [.top]
  | .plySub => [.plyPost]
  | .plyPost => [.top]
  | .sucShow => [.sucWait]
  | .sucWait => [.sucWait, .top]
  | .failShow => [.failWait1]
  | .failWait1 => [.failWait1, .failWait2]
  | .failWait2 => [.failWait2, .top]

/-- The transitions of `STAGE` other than staying (45 R122), with the phase whose micro-step makes each. -/
def stageEdge (ph : Phase) (a b : Stage) : Prop :=
  (ph = .init ∧ a = .init ∧ b = .simon) ∨ (ph = .simDone ∧ a = .simon ∧ b = .player) ∨
    (ph = .plyPost ∧ a = .player ∧ b = .fail) ∨ (ph = .plyPost ∧ a = .player ∧ b = .success) ∨
    (ph = .sucWait ∧ a = .success ∧ b = .simon) ∨ (ph = .failWait2 ∧ a = .fail ∧ b = .init)

/-- The stage a phase belongs to; `BOOT` belongs to INIT and `TOP` to every stage (45 R107 to R121). -/
def phaseStage : Phase → Option Stage
  | .top => none
  | .boot | .init => some .init
  | .simPrep | .simNext | .simOnWait | .simOffWait | .simDone => some .simon
  | .plySub | .plyPost => some .player
  | .sucShow | .sucWait => some .success
  | .failShow | .failWait1 | .failWait2 => some .fail

/-- A prepared delay, 250 to 1984 (10_state R28). -/
def prepared (d : Half) : Prop := 250 ≤ d.toNat ∧ d.toNat ≤ 1984

/-- What the units keep in every state, whatever is done: the markers of the display bytes (10_state R29), the debounce counts
below the window (41 R77), the edge masks made from their two bytes (41 R79, R80), a delay that is unwritten or prepared
(10_state R28), a duty of 50 % or silence (44 R99, R100). -/
structure UnitInv (s : State) : Prop where
  leftMark : s.disp.dispL.getLsbD 7 = true
  rightMark : s.disp.dispR.getLsbD 7 = false
  counts : ∀ b, b < 8 → (s.deb.bitAt b).cnt < Config.debounceN.count
  changed : s.edge.changed = s.edge.pbPrev ^^^ s.edge.pbCurr
  falling : s.edge.falling = (s.edge.pbPrev ^^^ s.edge.pbCurr) &&& s.edge.pbPrev
  rising : s.edge.rising = (s.edge.pbPrev ^^^ s.edge.pbCurr) &&& s.edge.pbCurr
  delay : s.time.playbackDelay = 0 ∨ prepared s.time.playbackDelay
  ready : s.time.delayReady = true → prepared s.time.playbackDelay
  duty : s.tone.pwmCmp = 0 ∨ s.tone.pwmCmp = s.tone.pwmPer >>> 1

/-- What the foreground keeps: phase and stage agree, events are enabled exactly after `BOOT`, the counters and flags are clear
outside PLAYER (45 R113, R116), `CONSUMED` is met only by `PLY_POST` with the slot back at WAIT, the playback index never passes
`SEQ_LEN` (45 R112), and the delay is prepared wherever it is read (10_state R28). -/
structure ForegroundInv (s : State) : Prop where
  stageOfPhase : ∀ g, phaseStage s.game.fgPh = some g → s.game.stage = g
  enabled : s.ie = true ↔ s.game.fgPh ≠ .boot
  idle : s.game.stage ≠ .player → s.game.slot = .wait ∧ s.game.inputCnt = 0 ∧ s.game.incorrect = false
  consumed : s.game.consumed = true → s.game.fgPh = .plyPost ∧ s.game.slot = .wait
  incorrect : s.game.incorrect = true → s.game.slot ≠ .wait ∨ s.game.consumed = true
  nextIdx : s.game.fgPh = .simNext → s.game.playIdx.toNat ≤ s.game.seqLen.toNat
  waitIdx : s.game.fgPh = .simOnWait ∨ s.game.fgPh = .simOffWait → s.game.playIdx.toNat < s.game.seqLen.toNat
  doneIdx : s.game.fgPh = .simDone → s.game.playIdx = s.game.seqLen
  delayLive :
    s.game.stage = .player ∨ s.game.stage = .success ∨ s.game.stage = .fail ∨
      (s.game.stage = .simon ∧ s.game.fgPh ≠ .top ∧ s.game.fgPh ≠ .simPrep) →
    prepared s.time.playbackDelay

/-- The invariant every step keeps. -/
structure BlockInv (s : State) : Prop where
  units : UnitInv s
  foreground : ForegroundInv s

/-- The environment presents ports only, no bare operation. -/
def portsOnly (s : State) : Prop := ∀ bytes, Line.op bytes ∉ s.trace

/-- Where the generator stands in a round (45 R123 (a)): in SIMON one advance past the resume seed for each step shown, in PLAYER
one for each press recognised, so that the `k`-th press is judged against the `k`-th step shown. `INPUT_CNT` is 8 bits, so it is
the number of presses modulo 256 (70 R170). -/
structure ReplayInv (s : State) : Prop where
  next :
    s.game.fgPh = .simNext ∨ s.game.fgPh = .simDone →
      s.seq.lfsrState = advanced Config.params.lfsrMask s.game.playIdx.toNat s.seq.reInit
  shown :
    s.game.fgPh = .simOnWait ∨ s.game.fgPh = .simOffWait →
      s.seq.lfsrState = advanced Config.params.lfsrMask (s.game.playIdx.toNat + 1) s.seq.reInit ∧
        s.seq.stepVal = stepOf s.seq.lfsrState
  judged :
    s.game.stage = .player →
      ∃ k, k % 256 = s.game.inputCnt.toNat ∧
        s.seq.lfsrState = advanced Config.params.lfsrMask k s.seq.reInit ∧
        (s.game.slot ≠ .wait → 0 < k ∧ s.seq.stepVal = stepOf s.seq.lfsrState)

end Sys2Proof.Safety
end

