-- ==== Sys2Proof/Certificates/Slice0/Obligations.lean ====
section
/-! DEFINITION. The statements for the provers. "[spec D<n>]" marks a clause whose rule the spec decided itself (spec/92);
"[log <n>]" marks a clause that is the model's own choice. -/

open Sys2Proof Sys2Proof.Machine Sys2Proof.Safety

/-! ## Encoding and decoding -/

/-- 30_encoding R56: an exact match of all 8 bits; every other code is the default row. [log 14 for the code points] -/
def Obligations.RxCharactersDecodeExactly : Prop :=
  ∀ c : Byte, decode .rxchar [c] = .ok
    (if c = 0x31 then .rxDigit1 else if c = 0x71 then .rxQ
     else if c = 0x32 then .rxDigit2 else if c = 0x77 then .rxW
     else if c = 0x33 then .rxDigit3 else if c = 0x65 then .rxE
     else if c = 0x34 then .rxDigit4 else if c = 0x72 then .rxR
     else if c = 0x2C then .rxComma else if c = 0x6B then .rxK
     else if c = 0x2E then .rxPeriod else if c = 0x6C then .rxL
     else .rxOther c)

/-- 30_encoding R66: the strobe vectors and their operand ports; more than one strobe is not one step. [spec D30;
the operand bytes are log 15] -/
def Obligations.EventVectorsDecode : Prop :=
  (∀ (r : Bool) (d : Byte),
    decode .event [0b00000, bitByte r, d] = .ok (.fgStep r d) ∧
    decode .event [0b00001] = .ok .evT1 ∧
    decode .event [0b00010, d] = .ok (.evT5 d) ∧
    decode .event [0b00100] = .ok .evXd ∧
    decode .event [0b01000, d] = .ok (.evRx d) ∧
    decode .event [0b10000] = .ok .evPwmClk) ∧
  ∀ (code : BitVec 5) (ops : List Byte), code ∉ [0b00000, 0b00001, 0b00010, 0b00100, 0b01000, 0b10000] →
    decode .event (code.setWidth 8 :: ops) = .error .severalStrobes

/-- 30_encoding R59: every phase, its low three bits don't-care but in `PLY_SUB`; the reserved codes are no instruction.
[spec D11, D25; the operand bytes of `SIM_PREP` are log 15] -/
def Obligations.PhaseWordsDecode : Prop :=
  ∀ (sss : BitVec 3) (r : Bool) (d : Byte),
    decode .fgph [(0b00000#5 ++ sss : Byte)] = .ok .fgBoot ∧
    decode .fgph [(0b00001#5 ++ sss : Byte)] = .ok .fgTop ∧
    decode .fgph [(0b00010#5 ++ sss : Byte)] = .ok .fgInit ∧
    decode .fgph [(0b00011#5 ++ sss : Byte), bitByte r, d] = .ok (.fgSimPrep r d) ∧
    decode .fgph [(0b00100#5 ++ sss : Byte)] = .ok .fgSimNext ∧
    decode .fgph [(0b00101#5 ++ sss : Byte)] = .ok .fgSimOnWait ∧
    decode .fgph [(0b00110#5 ++ sss : Byte)] = .ok .fgSimOffWait ∧
    decode .fgph [(0b00111#5 ++ sss : Byte)] = .ok .fgSimDone ∧
    decode .fgph [(0b01000#5 ++ sss : Byte)] =
      (if sss = 0 then .ok .fgPlySubWait else if sss = 1 then .ok .fgPlySubB1 else if sss = 2 then .ok .fgPlySubB2
       else if sss = 3 then .ok .fgPlySubB3 else if sss = 4 then .ok .fgPlySubB4 else .error .reservedSlot) ∧
    decode .fgph [(0b01001#5 ++ sss : Byte)] = .ok .fgPlyPost ∧
    decode .fgph [(0b01010#5 ++ sss : Byte)] = .ok .fgSucShow ∧
    decode .fgph [(0b01011#5 ++ sss : Byte)] = .ok .fgSucWait ∧
    decode .fgph [(0b01100#5 ++ sss : Byte)] = .ok .fgFailShow ∧
    decode .fgph [(0b01101#5 ++ sss : Byte)] = .ok .fgFailWait1 ∧
    decode .fgph [(0b01110#5 ++ sss : Byte)] = .ok .fgFailWait2 ∧
    decode .fgph [(0b01111#5 ++ sss : Byte)] = .error .reservedPhase

/-- 30_encoding R67: the 23 operation indices and the nine reserved ones. [spec D30; the operand bytes are log 15] -/
def Obligations.OperationIndicesDecode : Prop :=
  (∀ (r : Bool) (d : Byte) (th : Half) (x y : Seg) (idx : BarIdx) (i : LB),
    decode .opsel [0] = .ok .lfsrAdvance ∧ decode .opsel [1] = .ok .lfsrSeed ∧ decode .opsel [2] = .ok .lfsrSave ∧
    decode .opsel [3, d] = .ok (.dbTick d) ∧ decode .opsel [4] = .ok .edgeSample ∧
    decode .opsel [5] = .ok .tmrTick ∧ decode .opsel [6] = .ok .tmrReset ∧
    decode .opsel [7, th.extractLsb' 0 8, th.extractLsb' 8 8] = .ok (.tmrReached th) ∧
    decode .opsel [8, bitByte r, d] = .ok (.tmrPrepare r d) ∧
    decode .opsel [9] = .ok .tmrWaitFull ∧ decode .opsel [10] = .ok .tmrWaitHalf ∧
    decode .opsel [11, x.setWidth 8, y.setWidth 8] = .ok (.dispSet x y) ∧
    decode .opsel [12, idx.setWidth 8] = .ok (.dispRender idx) ∧
    decode .opsel [13] = .ok .dispTick ∧ decode .opsel [14] = .ok .dispLatch ∧
    decode .opsel [15, d] = .ok (.dispDigits d) ∧
    decode .opsel [16, i.setWidth 8] = .ok (.toneOn i) ∧ decode .opsel [17] = .ok .toneOff ∧
    decode .opsel [18] = .ok .octInc ∧ decode .opsel [19] = .ok .octDec ∧ decode .opsel [20] = .ok .opPwmClk ∧
    decode .opsel [21, i.setWidth 8] = .ok (.keyPress i) ∧ decode .opsel [22] = .ok .keyClear) ∧
  ∀ (code : BitVec 5) (ops : List Byte), 23 ≤ code.toNat →
    decode .opsel (code.setWidth 8 :: ops) = .error .reservedOperation

/-- 30_encoding R55, R70: the stimulus words; the `STIM` format decodes the two bytes of every word as `decodeStim` decodes the
word, whatever follows them, and refuses bits above the 14; and a line of the ports a word presents makes the next step run its
instruction. [spec D30; the byte order is log 15; that words with other bits set than R70's lines decode at all is log 31; the
trace is log 1; the low strobes of the state the instruction runs in are log 7] -/
def Obligations.StimulusWordsDecodeAndRun : Prop :=
  (∀ d : Byte,
    decodeStim 0x0000 = .ok (.fgStep false 0) ∧ decodeStim (0x0100 ||| d.setWidth 14) = .ok (.fgStep true d) ∧
    decodeStim 0x0200 = .ok .evT1 ∧ decodeStim (0x0400 ||| d.setWidth 14) = .ok (.evT5 d) ∧
    decodeStim 0x0800 = .ok .evXd ∧ decodeStim (0x1000 ||| d.setWidth 14) = .ok (.evRx d) ∧
    decodeStim 0x2000 = .ok .evPwmClk) ∧
  (∀ (w : BitVec 14) (rest : List Byte),
    decode .stim (w.extractLsb' 0 8 :: (w.extractLsb' 8 6).setWidth 8 :: rest) = decodeStim w) ∧
  (∀ (lo hi : Byte) (rest : List Byte), 64 ≤ hi.toNat → decode .stim (lo :: hi :: rest) = .error .bitsAboveFormat) ∧
  ∀ (i : Instr) (w : BitVec 14) (s : State) (rest : List Line),
    encodeStim i = some w → s.trace = .ports (portsOfStim w) :: rest →
      decodeStim w = .ok i ∧ step s = exec i (afterLine s rest)

/-- Decode and encode agree, for every well-formed instruction and every operand; the pseudo-operation `DISP.BLANK` reads back as
`DISP.RENDER 4`, which it is (30_encoding R71). [the operand bytes are log 15] -/
def Obligations.DecodeOfEncodeIsTheInstruction : Prop :=
  ∀ (i : Instr) (rest : List Byte), i.WellFormed → decode (encode i).1 ((encode i).2 ++ rest) = .ok i.expand

/-! ## The step -/

/-- A step runs exactly the instruction that was decoded, in a state that differs from the one before only in the lines, the
counter of free values and the strobes; a bare operation's line is decoded as an operation, and refused by name when it is none.
[log 1, log 4, log 7; that it runs also while a bare wait is in progress is log 32] -/
def Obligations.StepRunsTheDecodedInstruction : Prop :=
  (∀ (s u : State) (f : Format) (bytes : List Byte) (i : Instr),
    fetch s = .code f bytes u → decode f bytes = .ok i →
      step s = exec i u ∧ u = { s with trace := u.trace, draws := u.draws, strobes := .low }) ∧
  (∀ (s : State) (bytes : List Byte) (rest : List Line), s.trace = .op bytes :: rest →
    (∀ i, decode .opsel bytes = .ok i → step s = exec i (afterLine s rest)) ∧
    (∀ e, decode .opsel bytes = .error e → step s = .refused (.noInstruction e)))

/-- 30_encoding R66, 45 R105: no strobe is a foreground step, one strobe its agent's step. [log 1] -/
def Obligations.StepTakesThePresentedAgent : Prop :=
  ∀ (s : State) (p : InPorts) (rest : List Line), s.trace = .ports p :: rest → p.rst = false →
    (p.agents = [] → step s = exec (agentInstr p .fg) (afterLine s rest)) ∧
    (∀ a, p.agents = [a] → step s = exec (agentInstr p a) (afterLine s rest))

/-- 60 R143: events presented together are taken one at a time, each as its own step; a `T5` never before an `XD` that would
otherwise overrun. [the order is log 3] -/
def Obligations.EventsTogetherAreTakenOneAtATime : Prop :=
  ∀ (s : State) (p : InPorts) (rest : List Line), s.trace = .ports p :: rest → p.rst = false → 2 ≤ p.agents.length →
    ∃ a n, a ∈ p.agents ∧
      step s = exec (agentInstr p a) { afterLine s (.ports (p.clear a) :: rest) with draws := n } ∧
      ¬ (a = .t5 ∧ .xd ∈ p.agents ∧ s.mux.xferBusy = true ∧ s.ie = true)

/-- 70 R158: the reset step, from any state and whatever is presented with it. What the environment's cells hold after it is left
open [log 8]; the lines not yet presented stay [log 29]. -/
def Obligations.ResetStepWritesTheResetTable : Prop :=
  ∀ (s : State) (p : InPorts) (rest : List Line), s.trace = .ports p :: rest → p.rst = true →
    ∃ pan n, step s = .next { State.reset with panel := pan, trace := rest, draws := n }

/-- 70 R159: the reset table, every register it gives a value. [spec D9, D17, D19, D20, D25, D28, D29, D36] -/
def Obligations.ResetLeavesTheResetTable : Prop :=
  State.reset.seq = ⟨Config.lfsrSeed, Config.lfsrSeed, 0, false⟩ ∧
  State.reset.game = ⟨0, 0, 0, .init, .wait, .boot, false, false, false, false⟩ ∧
  State.reset.deb = ⟨0xFF, 0, 0⟩ ∧
  State.reset.edge = ⟨0xFF, 0xFF, 0, 0, 0⟩ ∧
  State.reset.time = ⟨0, 0, false⟩ ∧
  State.reset.disp = ⟨(Config.segDigit 10).setWidth 8 ||| 0x80, (Config.segDigit 10).setWidth 8⟩ ∧
  State.reset.mux = ⟨false, 0, false⟩ ∧
  State.reset.oct = .zero ∧
  State.reset.tone = ⟨0, 0⟩ ∧
  State.reset.wave = ⟨0, false⟩ ∧
  State.reset.key = ⟨false, 0⟩ ∧
  State.reset.ie = false

/-- 70 R161: the foreground's first four micro-steps, whatever the analog ports show. -/
def Obligations.FirstFourMicroStepsAfterReset : Prop :=
  ∀ (r1 r2 r3 r4 : Bool) (v1 v2 v3 v4 : Byte),
    execAll [.fgStep r1 v1] State.reset =
      .next { State.reset with ie := true, game := { State.reset.game with fgPh := .top } } ∧
    execAll [.fgStep r1 v1, .fgStep r2 v2] State.reset =
      .next { State.reset with ie := true, game := { State.reset.game with fgPh := .init } } ∧
    execAll [.fgStep r1 v1, .fgStep r2 v2, .fgStep r3 v3] State.reset =
      .next { State.reset with
        ie := true, game := { State.reset.game with seqLen := 1, stage := .simon, fgPh := .top } } ∧
    execAll [.fgStep r1 v1, .fgStep r2 v2, .fgStep r3 v3, .fgStep r4 v4] State.reset =
      .next { State.reset with
        ie := true, game := { State.reset.game with seqLen := 1, stage := .simon, fgPh := .simPrep } }

/-! ## Events -/

/-- 60 R141, 10_state R36: with `IE` = 0 an event takes no step and changes nothing. [spec D28; the RXCHAR rows: log 11] -/
def Obligations.EventsAreLostWhileDisabled : Prop :=
  ∀ (i : Instr) (s : State), isHandler i = true → s.ie = false → exec i s = .next s

/-- 60 R144, R146: `EV.T1` counts a millisecond and `EV.XD` performs `DISP.LATCH`, if events are enabled, else nothing. -/
def Obligations.MillisecondAndTransferEvents : Prop :=
  ∀ s : State,
    exec .evT1 s =
      .next (if s.ie = true then { s with time := { s.time with elapsed := s.time.elapsed + 1 } } else s) ∧
    ∃ t, exec .dispLatch s = .next t ∧ exec .evXd s = .next (if s.ie = true then t else s)

/-- 60 R145: `EV.T5` debounces and ships one byte in one step; while a transfer is in flight the whole step faults (R139). -/
def Obligations.FiveMillisecondTickEvent : Prop :=
  ∀ (raw : Byte) (s : State),
    (s.ie = true → s.mux.xferBusy = false →
      ∃ t, exec (.dbTick raw) s = .next t ∧
        exec (.evT5 raw) s = .next
          { t with
            mux := ⟨!s.mux.dispSel, if s.mux.dispSel = true then s.disp.dispR else s.disp.dispL, true⟩
            strobes := { s.strobes with spiStart := true } }) ∧
    (s.ie = true → s.mux.xferBusy = true → exec (.evT5 raw) s = .fault .transferOverrun) ∧
    (s.ie = false → exec (.evT5 raw) s = .next s)

/-- 60 R147, 46 R124: `EV.RX` performs the command its character selects. -/
def Obligations.ReceiveEventRunsItsCharacter : Prop :=
  ∀ (c : Byte) (s : State), ∃ i t, decode .rxchar [c] = .ok i ∧ exec i s = .next t ∧ exec (.evRx c) s = .next t

/-- 46 R125 to R132: each button character is `KEY.PRESS` of its button, honoured only in PLAYER. [IE: log 11] -/
def Obligations.ButtonCharactersPressTheirKey : Prop :=
  ∀ (x : Instr × LB) (s : State),
    x ∈ [(Instr.rxDigit1, (0 : LB)), (.rxQ, 0), (.rxDigit2, 1), (.rxW, 1), (.rxDigit3, 2), (.rxE, 2), (.rxDigit4, 3), (.rxR, 3)] →
      exec x.1 s = .next (if s.ie = true ∧ s.game.stage = .player then { s with key := ⟨true, x.2⟩ } else s)

/-- 46 R133 to R136: the octave characters, in every stage, leaving the pending key alone. [IE: log 11; spec D22] -/
def Obligations.OctaveCharactersMoveTheOctave : Prop :=
  ∀ s : State, s.ie = true →
    (∀ i, i ∈ [Instr.rxComma, .rxK] →
      ∃ o, o.value = max (-3) (s.oct.value - 1) ∧ exec i s = .next { s with oct := o }) ∧
    (∀ i, i ∈ [Instr.rxPeriod, .rxL] →
      ∃ o, o.value = min 3 (s.oct.value + 1) ∧ exec i s = .next { s with oct := o })

/-- 46 R137: any other character, and `KEY.CLEAR` itself, clears the pending key press in every stage; `KEYB` stays. [IE: log 11;
`RX other` with one of the twelve command characters, which the decoder never gives: log 28] -/
def Obligations.OtherCharactersClearTheKey : Prop :=
  ∀ (c : Byte) (s : State),
    (s.ie = true → exec (.rxOther c) s = .next { s with key := ⟨false, s.key.keyb⟩ }) ∧
    exec .keyClear s = .next { s with key := ⟨false, s.key.keyb⟩ }

/-! ## Sequence generator -/

/-- 40 R72: `LFSR.ADVANCE`. -/
def Obligations.GeneratorAdvance : Prop :=
  ∀ s : State, ∃ x : Word,
    x = (if s.seq.lfsrState.getLsbD 0 = true then (s.seq.lfsrState >>> 1) ^^^ Config.lfsrMask else s.seq.lfsrState >>> 1) ∧
    exec .lfsrAdvance s = .next
      { s with seq :=
        { lfsrState := x, reInit := s.seq.reInit, stepVal := x.extractLsb' 0 2, result := s.seq.lfsrState.getLsbD 0 } }

/-- 40 R73, R74: `LFSR.SEED` and `LFSR.SAVE`. -/
def Obligations.GeneratorSeedAndSave : Prop :=
  ∀ s : State,
    exec .lfsrSeed s = .next { s with seq := { s.seq with lfsrState := s.seq.reInit } } ∧
    exec .lfsrSave s = .next { s with seq := { s.seq with reInit := s.seq.lfsrState } }

/-- 40 R75 (b): after `LFSR.SEED` from equal resume seeds, the `k`-th advance yields equal steps, whatever else the states hold. -/
def Obligations.ReseededGeneratorRepeats : Prop :=
  ∀ (s1 s2 : State) (k : Nat), s1.seq.reInit = s2.seq.reInit →
    ∃ t1 t2,
      execAll (.lfsrSeed :: List.replicate (k + 1) .lfsrAdvance) s1 = .next t1 ∧
      execAll (.lfsrSeed :: List.replicate (k + 1) .lfsrAdvance) s2 = .next t2 ∧
      t1.seq = t2.seq ∧ t1.seq.reInit = s1.seq.reInit

/-! ## Buttons -/

/-- 41 R76: `DB.TICK`, every bit on its own, with the window `P_DEBOUNCE_N`. [spec D7] -/
def Obligations.DebounceTickTreatsEveryBit : Prop :=
  ∀ (raw : Byte) (s : State), ∃ d : Deb,
    exec (.dbTick raw) s = .next { s with deb := d } ∧
    ∀ b, b < 8 →
      let cnt := 2 * (s.deb.cnt1.getLsbD b).toNat + (s.deb.cnt0.getLsbD b).toNat
      let cnt' := 2 * (d.cnt1.getLsbD b).toNat + (d.cnt0.getLsbD b).toNat
      if raw.getLsbD b = s.deb.pbDeb.getLsbD b then d.pbDeb.getLsbD b = s.deb.pbDeb.getLsbD b ∧ cnt' = 0
      else if cnt + 1 = Config.debounceN.count then d.pbDeb.getLsbD b = raw.getLsbD b ∧ cnt' = 0
      else d.pbDeb.getLsbD b = s.deb.pbDeb.getLsbD b ∧ cnt' = (cnt + 1) % 4

/-- 41 R77: the bit-plane forms for both windows equal the per-bit rule while every count is below the window. -/
def Obligations.BitPlaneFormEqualsTheBitRule : Prop :=
  (∀ (raw : Byte) (d : Deb), (∀ b, b < 8 → (d.bitAt b).cnt < 2) →
    debounce .two raw d =
      { pbDeb := d.pbDeb ^^^ ((raw ^^^ d.pbDeb) &&& d.cnt0), cnt0 := (raw ^^^ d.pbDeb) &&& ~~~d.cnt0, cnt1 := 0 }) ∧
  (∀ (raw : Byte) (d : Deb), (∀ b, b < 8 → (d.bitAt b).cnt < 3) →
    debounce .three raw d =
      { pbDeb := d.pbDeb ^^^ ((raw ^^^ d.pbDeb) &&& d.cnt1)
        cnt0 := (raw ^^^ d.pbDeb) &&& ~~~d.cnt0 &&& ~~~d.cnt1
        cnt1 := (raw ^^^ d.pbDeb) &&& d.cnt0 &&& ~~~d.cnt1 })

/-- 41 R78, at the window of 2: from a bit with count 0, one differing sample and then an agreeing one never flips it, and two
differing samples always do. -/
def Obligations.GlitchNeverFlipsAndChangeAlwaysDoes : Prop :=
  ∀ (s : State) (raw1 raw2 : Byte) (b : Nat), b < 8 → (s.deb.bitAt b).cnt = 0 →
    raw1.getLsbD b ≠ s.deb.pbDeb.getLsbD b →
    ∃ t, execAll [.dbTick raw1, .dbTick raw2] s = .next t ∧ (t.deb.bitAt b).cnt = 0 ∧
      t.deb.pbDeb.getLsbD b = raw2.getLsbD b

/-- 41 R79: `EDGE.SAMPLE`. -/
def Obligations.EdgeSampleComparesTwoPasses : Prop :=
  ∀ s : State, exec .edgeSample s = .next
    { s with edge :=
      { pbPrev := s.edge.pbCurr
        pbCurr := s.deb.pbDeb
        changed := s.edge.pbCurr ^^^ s.deb.pbDeb
        falling := (s.edge.pbCurr ^^^ s.deb.pbDeb) &&& s.edge.pbCurr
        rising := (s.edge.pbCurr ^^^ s.deb.pbDeb) &&& s.deb.pbDeb } }

/-- 41 R80 (a): after every `EDGE.SAMPLE` the falling and rising masks are disjoint and together are the changed mask. -/
def Obligations.EdgeMasksAreDisjointAndCoverChanged : Prop :=
  ∀ s : State, ∃ t, exec .edgeSample s = .next t ∧
    t.edge.falling &&& t.edge.rising = 0 ∧ t.edge.falling ||| t.edge.rising = t.edge.changed

/-! ## Timing service -/

/-- 42 R82, R83: `TMR.TICK` counts modulo 65536, `TMR.RESET` clears. -/
def Obligations.ElapsedCountsAndClears : Prop :=
  ∀ s : State, ∃ e : Half, e.toNat = (s.time.elapsed.toNat + 1) % 65536 ∧
    exec .tmrTick s = .next { s with time := { s.time with elapsed := e } } ∧
    exec .tmrReset s = .next { s with time := { s.time with elapsed := 0 } }

/-- 42 R84: `TMR.REACHED` returns `ELAPSED >= th` and writes no register. [spec D12; where the bit is left: log 6] -/
def Obligations.ReachedReturnsTheComparison : Prop :=
  ∀ (th : Half) (s : State), exec (.tmrReached th) s = .next { s with ret := decide (s.time.elapsed.toNat ≥ th.toNat) }

/-- 42 R85, R86: `TMR.PREPARE` and the delay mapping: `round(6.8 * sample) + 250` for every sample. [spec D13; where the returned
bit is left: log 6] -/
def Obligations.PrepareDerivesTheDelay : Prop :=
  ∀ (v : Byte) (s : State),
    (∃ d : Half, d.toNat = (34 * v.toNat + 2) / 5 + 250 ∧
      (10 * (d.toNat - 250) ≤ 68 * v.toNat + 5 ∧ 68 * v.toNat < 10 * (d.toNat - 250) + 5) ∧
      exec (.tmrPrepare true v) s = .next
        { s with
          time := { s.time with playbackDelay := d, delayReady := true }
          strobes := { s.strobes with adcReq := true, adcAck := true }
          ret := true }) ∧
    exec (.tmrPrepare false v) s = .next
      { s with
        time := { s.time with delayReady := false }
        strobes := { s.strobes with adcReq := true }
        ret := false }

/-- 42 R87, R88: a wait resets the counter, then blocks the foreground, each of whose steps is one poll against the full or the
half delay. [the form of a bare wait is log 5; that a wait begun while another is in progress takes its place, where R87 knows no
cancellation, is log 32; the at-least comparison and the floored half are spec D12, log 26] -/
def Obligations.WaitsResetThenPoll : Prop :=
  ∀ (r : Bool) (v : Byte) (s : State),
    exec .tmrWaitFull s = .next { s with time := { s.time with elapsed := 0 }, wait := some .full } ∧
    exec .tmrWaitHalf s = .next { s with time := { s.time with elapsed := 0 }, wait := some .half } ∧
    (s.wait = some .full → exec (.fgStep r v) s =
      .next (if s.time.playbackDelay.toNat ≤ s.time.elapsed.toNat then { s with wait := none } else s)) ∧
    (s.wait = some .half → exec (.fgStep r v) s =
      .next (if s.time.playbackDelay.toNat / 2 ≤ s.time.elapsed.toNat then { s with wait := none } else s))

/-- 42 R87, R88, R89: after `n` ticks, short of a wrap of the counter, the poll ends a full wait exactly when `n` is at least the
delay and a half wait exactly when it is at least half the delay. [the form of a bare wait is log 5; that a wait begun while another
is in progress takes its place, where R87 knows no cancellation, is log 32; the at-least comparison and the floored half are spec
D12, log 26] -/
def Obligations.WaitEndsExactlyAtItsThreshold : Prop :=
  ∀ (s : State) (n : Nat) (r : Bool) (v : Byte), s.ie = true → n < 65536 →
    (∃ t, execAll (.tmrWaitFull :: (List.replicate n .evT1 ++ [.fgStep r v])) s = .next t ∧
      (t.wait = none ↔ s.time.playbackDelay.toNat ≤ n) ∧ t.time.elapsed.toNat = n ∧ t.game = s.game) ∧
    (∃ t, execAll (.tmrWaitHalf :: (List.replicate n .evT1 ++ [.fgStep r v])) s = .next t ∧
      (t.wait = none ↔ s.time.playbackDelay.toNat / 2 ≤ n) ∧ t.time.elapsed.toNat = n ∧ t.game = s.game)

/-! ## Display -/

/-- 43 R91, R92, R93: `DISP.SET`, the bars of `DISP.RENDER`, and `DISP.BLANK`. [spec D14, D15] -/
def Obligations.DisplayBytesAreSet : Prop :=
  ∀ (l r : Seg) (idx : BarIdx) (s : State),
    exec (.dispSet l r) s = .next { s with disp := ⟨(0b1#1 ++ l : Byte), (0b0#1 ++ r : Byte)⟩ } ∧
    exec (.dispRender idx) s = exec
      (if idx = 0 then .dispSet Config.segBarL (Config.segDigit 10)
       else if idx = 1 then .dispSet Config.segBarR (Config.segDigit 10)
       else if idx = 2 then .dispSet (Config.segDigit 10) Config.segBarL
       else if idx = 3 then .dispSet (Config.segDigit 10) Config.segBarR
       else .dispSet (Config.segDigit 10) (Config.segDigit 10)) s ∧
    exec .dispBlank s = .next
      { s with disp := ⟨(0b1#1 ++ Config.segDigit 10 : Byte), (0b0#1 ++ Config.segDigit 10 : Byte)⟩ } ∧
    Completes (exec (.dispRender idx) s)

/-- 43 R94: `DISP.TICK` ships the selected byte and turns to the other; during a transfer it faults (60 R139). [spec D17, D31] -/
def Obligations.DisplayTickShipsOneByte : Prop :=
  ∀ s : State,
    (s.mux.xferBusy = false → exec .dispTick s = .next
      { s with
        mux := ⟨!s.mux.dispSel, if s.mux.dispSel = true then s.disp.dispR else s.disp.dispL, true⟩
        strobes := { s.strobes with spiStart := true } }) ∧
    (s.mux.xferBusy = true → exec .dispTick s = .fault .transferOverrun)

/-- 43 R95, R96: `DISP.LATCH` makes the byte visible on the digit its bit 7 selects. [spec D17] -/
def Obligations.LatchShowsTheByteOnItsDigit : Prop :=
  ∀ s : State, ∃ pan : Panel,
    exec .dispLatch s = .next
      { s with
        mux := { s.mux with xferBusy := false }
        panel := pan
        strobes := { s.strobes with dispLatch := true } } ∧
    pan.vis = s.mux.txByte ∧
    (s.mux.txByte.getLsbD 7 = true → pan.digLeft = s.mux.txByte.extractLsb' 0 7 ∧ pan.digRight = s.panel.digRight) ∧
    (s.mux.txByte.getLsbD 7 = false → pan.digRight = s.mux.txByte.extractLsb' 0 7 ∧ pan.digLeft = s.panel.digLeft)

/-- 43 R97: the score in two digits with a blank for a leading zero; from 110 on the tens digit has no table entry (60 R139).
[spec D26, D27] -/
def Obligations.DigitsShowTheScore : Prop :=
  ∀ (n : Byte) (s : State),
    (n.toNat < 110 → ∃ tens ones : Fin 11,
      tens.val = (if n.toNat / 10 = 0 then 10 else n.toNat / 10) ∧ ones.val = n.toNat % 10 ∧
      exec (.dispDigits n) s = .next
        { s with disp := ⟨(0b1#1 ++ Config.segDigit tens : Byte), (0b0#1 ++ Config.segDigit ones : Byte)⟩ }) ∧
    (110 ≤ n.toNat → exec (.dispDigits n) s = .fault .digitOutOfTable)

/-- 43 R94 to R98: from an idle transport, two tick and completion pairs put the left byte on the left digit and the right byte on
the right digit, whichever is shipped first. -/
def Obligations.TwoTickPairsRefreshBothDigits : Prop :=
  ∀ (s : State) (raw1 raw2 : Byte), s.ie = true → s.mux.xferBusy = false →
    s.disp.dispL.getLsbD 7 = true → s.disp.dispR.getLsbD 7 = false →
    ∃ t, execAll [.evT5 raw1, .evXd, .evT5 raw2, .evXd] s = .next t ∧
      t.panel.digLeft = s.disp.dispL.extractLsb' 0 7 ∧ t.panel.digRight = s.disp.dispR.extractLsb' 0 7 ∧
      t.mux.dispSel = s.mux.dispSel ∧ t.mux.xferBusy = false ∧ t.game = s.game

/-! ## Tone -/

/-- 44 R99, R100: `TONE.ON` sets the shifted period at 50 % duty; `TONE.OFF` silences and leaves the period. [spec D18] -/
def Obligations.ToneOnAndOff : Prop :=
  ∀ (i : LB) (s : State),
    exec (.toneOn i) s = .next
      { s with tone :=
        ⟨Config.tonePer i >>> (3 + s.oct.value).toNat, (Config.tonePer i >>> (3 + s.oct.value).toNat) >>> 1⟩ } ∧
    exec .toneOff s = .next { s with tone := ⟨s.tone.pwmPer, 0⟩ }

/-- 44 R101, R102: the octave saturates at both bounds and never wraps; ten steps from 0 reach the bound. -/
def Obligations.OctaveStepsSaturate : Prop :=
  (∀ s : State,
    (∃ o, o.value = min 3 (s.oct.value + 1) ∧ exec .octInc s = .next { s with oct := o }) ∧
    (∃ o, o.value = max (-3) (s.oct.value - 1) ∧ exec .octDec s = .next { s with oct := o })) ∧
  ∀ s : State, s.oct.value = 0 →
    (∃ o, o.value = 3 ∧ execAll (List.replicate 10 .octInc) s = .next { s with oct := o }) ∧
    (∃ o, o.value = -3 ∧ execAll (List.replicate 10 .octDec) s = .next { s with oct := o })

/-- 44 R103: one strobe of the PWM counter, as an event and as an operation, whatever `IE` is. [spec D19] -/
def Obligations.PwmStrobeCountsAndCompares : Prop :=
  ∀ s : State, ∃ c : Half,
    c = (if s.wave.pwmCnt.toNat ≥ s.tone.pwmPer.toNat then 0 else s.wave.pwmCnt + 1) ∧
    exec .evPwmClk s = .next { s with wave := ⟨c, decide (c.toNat < s.tone.pwmCmp.toNat)⟩ } ∧
    exec .opPwmClk s = .next { s with wave := ⟨c, decide (c.toNat < s.tone.pwmCmp.toNat)⟩ }

/-- 44 R103: "The counter runs from 0 to `PWM_PER` inclusive, so one period is `PWM_PER + 1` strobes": after `n` strobes it stands
at `n` further modulo the period, and the output is high exactly below the compare value. [spec D19] -/
def Obligations.PwmPeriodIsPerPlusOne : Prop :=
  ∀ (s : State) (n : Nat), s.wave.pwmCnt.toNat ≤ s.tone.pwmPer.toNat →
    ∃ t, execAll (List.replicate n .evPwmClk) s = .next t ∧
      t.wave.pwmCnt.toNat = (s.wave.pwmCnt.toNat + n) % (s.tone.pwmPer.toNat + 1) ∧
      (0 < n → (t.wave.toneOut = true ↔ t.wave.pwmCnt.toNat < s.tone.pwmCmp.toNat)) ∧
      t = { s with wave := t.wave }

/-! ## Serial keys -/

/-- 46 R124: `KEY.PRESS` is honoured only in PLAYER and otherwise writes nothing. [spec D22] -/
def Obligations.KeyPressOnlyInPlayer : Prop :=
  ∀ (i : LB) (s : State),
    exec (.keyPress i) s = .next (if s.game.stage = .player then { s with key := ⟨true, i⟩ } else s)

/-! ## The foreground's micro-steps -/

/-- 45 R106, R107, R108, R113: `FG.BOOT`, `FG.TOP`, `FG.INIT`, `FG.SIM_DONE`. [spec D28, D25] -/
def Obligations.BootTopInitAndSimDone : Prop :=
  ∀ s : State,
    exec .fgBoot s = .next { s with ie := true, game := { s.game with fgPh := .top } } ∧
    (∃ t, exec .edgeSample s = .next t ∧
      exec .fgTop s = .next { t with game := { s.game with fgPh :=
        (match s.game.stage with
          | .init => .init | .simon => .simPrep | .player => .plySub | .success => .sucShow | .fail => .failShow) } }) ∧
    exec .fgInit s = .next { s with game := { s.game with seqLen := 1, stage := .simon, fgPh := .top } } ∧
    exec .fgSimDone s = .next
      { s with
        seq := { s.seq with lfsrState := s.seq.reInit }
        game := { s.game with slot := .wait, stage := .player, fgPh := .top } }

/-- 45 R109: `FG.SIM_PREP` re-seeds and polls the analog sample. -/
def Obligations.SimonPrepReseedsAndPolls : Prop :=
  ∀ (r : Bool) (v : Byte) (s : State), ∃ t,
    execAll [.lfsrSeed, .tmrPrepare r v] s = .next t ∧
    exec (.fgSimPrep r v) s = .next
      { t with
        ret := s.ret
        game := if r = true then { s.game with playIdx := 0, fgPh := .simNext } else { s.game with fgPh := .top } }

/-- 45 R110: `FG.SIM_NEXT` finishes, or plays the next step. [that the four calls are one atomic step is the spec's own inference
in R110 and its phase split: spec D25; log 22] -/
def Obligations.SimonNextPlaysOneStep : Prop :=
  ∀ s : State,
    (s.game.playIdx = s.game.seqLen → exec .fgSimNext s = .next { s with game := { s.game with fgPh := .simDone } }) ∧
    (s.game.playIdx ≠ s.game.seqLen → ∃ a t,
      exec .lfsrAdvance s = .next a ∧
      execAll [.toneOn a.seq.stepVal, .dispRender (a.seq.stepVal.setWidth 3), .tmrReset] a = .next t ∧
      exec .fgSimNext s = .next { t with game := { s.game with fgPh := .simOnWait } })

/-- 45 R111, R112: the two half waits of the playback. [the at-least comparison of 42 R84 and the floored half of R89: spec D12;
log 26. The phases with their fused tone, display and timer writes: spec D25; log 22] -/
def Obligations.SimonHalfWaits : Prop :=
  ∀ s : State,
    (s.time.elapsed.toNat < (s.time.playbackDelay >>> 1).toNat →
      exec .fgSimOnWait s = .next s ∧ exec .fgSimOffWait s = .next s) ∧
    ((s.time.playbackDelay >>> 1).toNat ≤ s.time.elapsed.toNat →
      (∃ t, execAll [.toneOff, .dispBlank, .tmrReset] s = .next t ∧
        exec .fgSimOnWait s = .next { t with game := { s.game with fgPh := .simOffWait } }) ∧
      exec .fgSimOffWait s = .next { s with game := { s.game with playIdx := s.game.playIdx + 1, fgPh := .simNext } })

/-- 45 R114: the WAIT scan recognises the first of the buttons 0 to 3 with a press edge or a pending key, and otherwise only moves
on. [spec D21, D24] -/
def Obligations.WaitScanRecognisesTheFirstPress : Prop :=
  ∀ (s : State) (phys key : LB → Prop),
    (∀ i, phys i ↔ s.edge.falling.getLsbD (Config.btn.bit i).toNat = true) →
    (∀ i, key i ↔ s.key.keyp = true ∧ s.key.keyb = i) →
    ((∀ i, ¬ phys i ∧ ¬ key i) → exec .fgPlySubWait s = .next { s with game := { s.game with fgPh := .plyPost } }) ∧
    (∀ i, (phys i ∨ key i) → (∀ j : LB, j.toNat < i.toNat → ¬ phys j ∧ ¬ key j) →
      ∃ t src, execAll [.lfsrAdvance, .tmrReset] s = .next t ∧ (src = true ↔ key i ∧ ¬ phys i) ∧
        ∃ keyp', (key i → keyp' = false) ∧ (¬ key i → keyp' = s.key.keyp) ∧
        exec .fgPlySubWait s = .next
          { t with
            game :=
              { s.game with
                inputCnt := s.game.inputCnt + 1, srcKey := src, released := false, slot := Slot.held i, fgPh := .plyPost }
            key := ⟨keyp', s.key.keyb⟩ })

/-- 45 R115: the held sub-state of each button: tone, bar, judgement, release, and the end of the input at the later of the
release and the half delay. [spec D34, D12, D25; log 22, log 26] -/
def Obligations.HeldButtonIsJudgedAndEnds : Prop :=
  ∀ (s : State) (x : Instr × LB),
    x ∈ [(Instr.fgPlySubB1, (0 : LB)), (.fgPlySubB2, 1), (.fgPlySubB3, 2), (.fgPlySubB4, 3)] →
    ∀ inc rel : Bool,
      (inc = true ↔ s.game.incorrect = true ∨ x.2 ≠ s.seq.stepVal) →
      (rel = true ↔ s.game.released = true ∨ s.edge.rising.getLsbD (Config.btn.bit x.2).toNat = true ∨ s.game.srcKey = true) →
      (rel = true → (s.time.playbackDelay >>> 1).toNat ≤ s.time.elapsed.toNat →
        ∃ t, execAll [.toneOn x.2, .dispRender (x.2.setWidth 3), .toneOff, .dispBlank] s = .next t ∧
          exec x.1 s = .next
            { t with game :=
              { s.game with incorrect := inc, released := true, consumed := true, slot := .wait, fgPh := .plyPost } }) ∧
      (rel = false ∨ s.time.elapsed.toNat < (s.time.playbackDelay >>> 1).toNat →
        ∃ t, execAll [.toneOn x.2, .dispRender (x.2.setWidth 3)] s = .next t ∧
          exec x.1 s = .next { t with game := { s.game with incorrect := inc, released := rel, fgPh := .plyPost } })

/-- 45 R116: `FG.PLY_POST`. [spec D23] -/
def Obligations.PlayerPostDecidesTheRound : Prop :=
  ∀ s : State, exec .fgPlyPost s = .next
    { s with game :=
      if s.game.consumed = false then { s.game with fgPh := .top }
      else if s.game.incorrect = true then
        { s.game with consumed := false, incorrect := false, inputCnt := 0, stage := .fail, fgPh := .top }
      else if s.game.inputCnt = s.game.seqLen then
        { s.game with consumed := false, inputCnt := 0, stage := .success, fgPh := .top }
      else { s.game with consumed := false, fgPh := .top } }

/-- 45 R117, R118: SUCCESS. [spec D35, D12, D25; log 22, log 26] -/
def Obligations.SuccessShowsAndLengthens : Prop :=
  ∀ s : State,
    (∃ t, execAll [.dispSet Config.patSuccessL Config.patSuccessR, .tmrReset] s = .next t ∧
      exec .fgSucShow s = .next { t with game := { s.game with fgPh := .sucWait } }) ∧
    (s.time.elapsed.toNat < s.time.playbackDelay.toNat → exec .fgSucWait s = .next s) ∧
    (s.time.playbackDelay.toNat ≤ s.time.elapsed.toNat →
      ∃ t, exec .dispBlank s = .next t ∧
        exec .fgSucWait s = .next
          { t with game := { s.game with seqLen := s.game.seqLen + 1, stage := .simon, fgPh := .top } })

/-- 45 R119, R120, R121: FAIL: pattern, score, then one more advance saved as the resume seed; a score from 110 on faults (60 R139).
[spec D27, D12, D25; log 22, log 26] -/
def Obligations.FailShowsScoresAndSaves : Prop :=
  ∀ s : State,
    (∃ t, execAll [.dispSet Config.patFailL Config.patFailR, .tmrReset] s = .next t ∧
      exec .fgFailShow s = .next { t with game := { s.game with fgPh := .failWait1 } }) ∧
    (s.time.elapsed.toNat < s.time.playbackDelay.toNat →
      exec .fgFailWait1 s = .next s ∧ exec .fgFailWait2 s = .next s) ∧
    (s.time.playbackDelay.toNat ≤ s.time.elapsed.toNat →
      (s.game.seqLen.toNat < 110 → ∃ t, execAll [.dispDigits s.game.seqLen, .tmrReset] s = .next t ∧
        exec .fgFailWait1 s = .next { t with game := { s.game with fgPh := .failWait2 } }) ∧
      (110 ≤ s.game.seqLen.toNat → exec .fgFailWait1 s = .fault .digitOutOfTable) ∧
      (∃ t, execAll [.dispBlank, .lfsrAdvance, .lfsrSave] s = .next t ∧
        exec .fgFailWait2 s = .next { t with game := { s.game with stage := .init, fgPh := .top } }))

/-- 45 R105: a foreground step is exactly the micro-step that the `FGPH` code of `FG_PH` and `SLOT` decodes to, and it answers a
next state but for a score of 110 or more (60 R139). [no bare wait in progress: log 5] -/
def Obligations.ForegroundStepIsTheSelectedMicroStep : Prop :=
  ∀ (r : Bool) (v : Byte) (s : State), s.wait = none →
    (∃ i, decode .fgph [fgphCode s.game, bitByte r, v] = .ok i ∧ exec (.fgStep r v) s = exec i s) ∧
    ((s.game.fgPh = .failWait1 → s.game.seqLen.toNat < 110) → ∃ t, exec (.fgStep r v) s = .next t)

/-! ## The machine as a whole -/

/-- 10_state R13: the writers of every register, one frame for each agent: `T1` writes only `ELAPSED`; `T5` only the debouncer, the
transport and `spi_start`; `XD` only clears `XFER_BUSY` and writes the display side and `disp_latch`; `RX`, as an event and as
any RXCHAR row, only `OCT` or only `KEYP`, `KEYB`. The foreground writes neither the debouncer, the transport, `OCT` nor `KEYB`,
sets no pending key, writes `IE` in `FG.BOOT` only and never clears it, and touches `ELAPSED` only to clear it; `PWM.CLK` writes
only its own counter and output. [the strobes of a step: log 7; the end of a bare wait, the model's field `wait`: log 5] -/
def Obligations.EveryAgentWritesOnlyItsCells : Prop :=
  (∀ s t : State, exec .evT1 s = .next t → t = { s with time := { s.time with elapsed := t.time.elapsed } }) ∧
  (∀ (raw : Byte) (s t : State), exec (.evT5 raw) s = .next t →
    t = { s with deb := t.deb, mux := t.mux, strobes := { s.strobes with spiStart := t.strobes.spiStart } }) ∧
  (∀ s t : State, exec .evXd s = .next t →
    t = { s with
      mux := { s.mux with xferBusy := t.mux.xferBusy }, panel := t.panel,
      strobes := { s.strobes with dispLatch := t.strobes.dispLatch } } ∧
    (t.mux.xferBusy = true → s.mux.xferBusy = true)) ∧
  (∀ (i : Instr) (s t : State), (formatOf i = .rxchar ∨ ∃ c, i = .evRx c) → exec i s = .next t →
    t = { s with oct := t.oct } ∨ t = { s with key := t.key }) ∧
  (∀ (r : Bool) (v : Byte) (s t : State), exec (.fgStep r v) s = .next t →
    t = { s with
      seq := t.seq, game := t.game, edge := t.edge, time := t.time, disp := t.disp, tone := t.tone,
      key := { s.key with keyp := t.key.keyp }, ie := t.ie,
      strobes := { s.strobes with adcReq := t.strobes.adcReq, adcAck := t.strobes.adcAck }, wait := t.wait } ∧
    (t.key.keyp = true → s.key.keyp = true) ∧
    (s.game.fgPh ≠ .boot → t.ie = s.ie) ∧ (s.ie = true → t.ie = true) ∧
    (t.time.elapsed = s.time.elapsed ∨ t.time.elapsed = 0)) ∧
  (∀ s t : State, exec .evPwmClk s = .next t → t = { s with wave := t.wave })

/-- 20_memory R51: steps of different handlers may be swapped, but for an `EV.T5` beside an `EV.XD`. -/
def Obligations.HandlersCommute : Prop :=
  ∀ (raw c : Byte) (x : Instr × Instr) (s : State),
    x ∈ [(Instr.evT1, Instr.evT5 raw), (.evT1, .evXd), (.evT1, .evRx c), (.evT5 raw, .evRx c), (.evXd, .evRx c)] →
      execAll [x.1, x.2] s = execAll [x.2, x.1] s

/-- 60 R138, R139: the two model faults arise exactly in their conditions, and no instruction is refused. [spec D27, D31] -/
def Obligations.InstructionsFaultExactlyInTwoConditions : Prop :=
  ∀ (i : Instr) (s : State),
    (∀ r, exec i s ≠ .refused r) ∧
    (exec i s = .fault .transferOverrun ↔
      s.mux.xferBusy = true ∧ (i = .dispTick ∨ (s.ie = true ∧ ∃ raw, i = .evT5 raw))) ∧
    (exec i s = .fault .digitOutOfTable ↔
      (∃ n : Byte, i = .dispDigits n ∧ 110 ≤ n.toNat) ∨
      (110 ≤ s.game.seqLen.toNat ∧ s.time.playbackDelay.toNat ≤ s.time.elapsed.toNat ∧
        (i = .fgFailWait1 ∨ (s.wait = none ∧ s.game.fgPh = .failWait1 ∧ ∃ r v, i = .fgStep r v))))

/-- 45 R122, R105: every foreground step follows an edge of the phase graph, and only the poll phases may stay. -/
def Obligations.PhaseGraphIsFollowed : Prop :=
  ∀ (r : Bool) (v : Byte) (s t : State), s.wait = none → exec (.fgStep r v) s = .next t →
    t.game.fgPh ∈ phaseEdge s.game.fgPh ∧ (t.game.fgPh = s.game.fgPh → isPollPhase s.game.fgPh = true)

/-- 45 R122: every step but a reset keeps `STAGE` or makes a transition of the stage graph in its own phase. -/
def Obligations.StageGraphIsFollowed : Prop :=
  ∀ s t : State, ForegroundInv s → step s = .next t → (∀ u, fetch s ≠ .reset u) →
    t.game.stage = s.game.stage ∨ stageEdge s.game.fgPh s.game.stage t.game.stage

/-- The reset state has the block's invariant and the replay invariant, and no bare operation is waiting. -/
def Obligations.ResetHasTheInvariants : Prop := BlockInv State.reset ∧ ReplayInv State.reset ∧ portsOnly State.reset

/-- Every step, of any agent, any presented ports and any bare operation, keeps the block's invariant. -/
def Obligations.EveryStepKeepsTheBlockInvariant : Prop :=
  ∀ s t : State, BlockInv s → step s = .next t → BlockInv t

/-- 45 R123 (a): every step of the block keeps the generator where the round stands, so that the presses of PLAYER are judged
against the steps SIMON showed, in the same order. -/
def Obligations.EveryStepKeepsTheReplayInvariant : Prop :=
  ∀ s t : State, BlockInv s → ReplayInv s → portsOnly s → step s = .next t → ReplayInv t ∧ portsOnly t
end

