-- ==== Sys2Proof/Laws/State.lean ====
section
/-! SUPPORT. One lemma per field per update of State: what an update leaves and what it sets. -/
namespace Sys2Proof.Machine

@[simp] theorem setSeq_seq (s x) : (State.setSeq s x).seq = x := rfl
@[simp] theorem setSeq_game (s x) : (State.setSeq s x).game = s.game := rfl
@[simp] theorem setSeq_deb (s x) : (State.setSeq s x).deb = s.deb := rfl
@[simp] theorem setSeq_edge (s x) : (State.setSeq s x).edge = s.edge := rfl
@[simp] theorem setSeq_time (s x) : (State.setSeq s x).time = s.time := rfl
@[simp] theorem setSeq_disp (s x) : (State.setSeq s x).disp = s.disp := rfl
@[simp] theorem setSeq_mux (s x) : (State.setSeq s x).mux = s.mux := rfl
@[simp] theorem setSeq_panel (s x) : (State.setSeq s x).panel = s.panel := rfl
@[simp] theorem setSeq_oct (s x) : (State.setSeq s x).oct = s.oct := rfl
@[simp] theorem setSeq_tone (s x) : (State.setSeq s x).tone = s.tone := rfl
@[simp] theorem setSeq_wave (s x) : (State.setSeq s x).wave = s.wave := rfl
@[simp] theorem setSeq_key (s x) : (State.setSeq s x).key = s.key := rfl
@[simp] theorem setSeq_ie (s x) : (State.setSeq s x).ie = s.ie := rfl
@[simp] theorem setSeq_strobes (s x) : (State.setSeq s x).strobes = s.strobes := rfl
@[simp] theorem setSeq_ret (s x) : (State.setSeq s x).ret = s.ret := rfl
@[simp] theorem setSeq_wait (s x) : (State.setSeq s x).wait = s.wait := rfl
@[simp] theorem setSeq_trace (s x) : (State.setSeq s x).trace = s.trace := rfl
@[simp] theorem setSeq_draws (s x) : (State.setSeq s x).draws = s.draws := rfl

@[simp] theorem setGame_seq (s x) : (State.setGame s x).seq = s.seq := rfl
@[simp] theorem setGame_game (s x) : (State.setGame s x).game = x := rfl
@[simp] theorem setGame_deb (s x) : (State.setGame s x).deb = s.deb := rfl
@[simp] theorem setGame_edge (s x) : (State.setGame s x).edge = s.edge := rfl
@[simp] theorem setGame_time (s x) : (State.setGame s x).time = s.time := rfl
@[simp] theorem setGame_disp (s x) : (State.setGame s x).disp = s.disp := rfl
@[simp] theorem setGame_mux (s x) : (State.setGame s x).mux = s.mux := rfl
@[simp] theorem setGame_panel (s x) : (State.setGame s x).panel = s.panel := rfl
@[simp] theorem setGame_oct (s x) : (State.setGame s x).oct = s.oct := rfl
@[simp] theorem setGame_tone (s x) : (State.setGame s x).tone = s.tone := rfl
@[simp] theorem setGame_wave (s x) : (State.setGame s x).wave = s.wave := rfl
@[simp] theorem setGame_key (s x) : (State.setGame s x).key = s.key := rfl
@[simp] theorem setGame_ie (s x) : (State.setGame s x).ie = s.ie := rfl
@[simp] theorem setGame_strobes (s x) : (State.setGame s x).strobes = s.strobes := rfl
@[simp] theorem setGame_ret (s x) : (State.setGame s x).ret = s.ret := rfl
@[simp] theorem setGame_wait (s x) : (State.setGame s x).wait = s.wait := rfl
@[simp] theorem setGame_trace (s x) : (State.setGame s x).trace = s.trace := rfl
@[simp] theorem setGame_draws (s x) : (State.setGame s x).draws = s.draws := rfl

@[simp] theorem setDeb_seq (s x) : (State.setDeb s x).seq = s.seq := rfl
@[simp] theorem setDeb_game (s x) : (State.setDeb s x).game = s.game := rfl
@[simp] theorem setDeb_deb (s x) : (State.setDeb s x).deb = x := rfl
@[simp] theorem setDeb_edge (s x) : (State.setDeb s x).edge = s.edge := rfl
@[simp] theorem setDeb_time (s x) : (State.setDeb s x).time = s.time := rfl
@[simp] theorem setDeb_disp (s x) : (State.setDeb s x).disp = s.disp := rfl
@[simp] theorem setDeb_mux (s x) : (State.setDeb s x).mux = s.mux := rfl
@[simp] theorem setDeb_panel (s x) : (State.setDeb s x).panel = s.panel := rfl
@[simp] theorem setDeb_oct (s x) : (State.setDeb s x).oct = s.oct := rfl
@[simp] theorem setDeb_tone (s x) : (State.setDeb s x).tone = s.tone := rfl
@[simp] theorem setDeb_wave (s x) : (State.setDeb s x).wave = s.wave := rfl
@[simp] theorem setDeb_key (s x) : (State.setDeb s x).key = s.key := rfl
@[simp] theorem setDeb_ie (s x) : (State.setDeb s x).ie = s.ie := rfl
@[simp] theorem setDeb_strobes (s x) : (State.setDeb s x).strobes = s.strobes := rfl
@[simp] theorem setDeb_ret (s x) : (State.setDeb s x).ret = s.ret := rfl
@[simp] theorem setDeb_wait (s x) : (State.setDeb s x).wait = s.wait := rfl
@[simp] theorem setDeb_trace (s x) : (State.setDeb s x).trace = s.trace := rfl
@[simp] theorem setDeb_draws (s x) : (State.setDeb s x).draws = s.draws := rfl

@[simp] theorem setEdge_seq (s x) : (State.setEdge s x).seq = s.seq := rfl
@[simp] theorem setEdge_game (s x) : (State.setEdge s x).game = s.game := rfl
@[simp] theorem setEdge_deb (s x) : (State.setEdge s x).deb = s.deb := rfl
@[simp] theorem setEdge_edge (s x) : (State.setEdge s x).edge = x := rfl
@[simp] theorem setEdge_time (s x) : (State.setEdge s x).time = s.time := rfl
@[simp] theorem setEdge_disp (s x) : (State.setEdge s x).disp = s.disp := rfl
@[simp] theorem setEdge_mux (s x) : (State.setEdge s x).mux = s.mux := rfl
@[simp] theorem setEdge_panel (s x) : (State.setEdge s x).panel = s.panel := rfl
@[simp] theorem setEdge_oct (s x) : (State.setEdge s x).oct = s.oct := rfl
@[simp] theorem setEdge_tone (s x) : (State.setEdge s x).tone = s.tone := rfl
@[simp] theorem setEdge_wave (s x) : (State.setEdge s x).wave = s.wave := rfl
@[simp] theorem setEdge_key (s x) : (State.setEdge s x).key = s.key := rfl
@[simp] theorem setEdge_ie (s x) : (State.setEdge s x).ie = s.ie := rfl
@[simp] theorem setEdge_strobes (s x) : (State.setEdge s x).strobes = s.strobes := rfl
@[simp] theorem setEdge_ret (s x) : (State.setEdge s x).ret = s.ret := rfl
@[simp] theorem setEdge_wait (s x) : (State.setEdge s x).wait = s.wait := rfl
@[simp] theorem setEdge_trace (s x) : (State.setEdge s x).trace = s.trace := rfl
@[simp] theorem setEdge_draws (s x) : (State.setEdge s x).draws = s.draws := rfl

@[simp] theorem setTime_seq (s x) : (State.setTime s x).seq = s.seq := rfl
@[simp] theorem setTime_game (s x) : (State.setTime s x).game = s.game := rfl
@[simp] theorem setTime_deb (s x) : (State.setTime s x).deb = s.deb := rfl
@[simp] theorem setTime_edge (s x) : (State.setTime s x).edge = s.edge := rfl
@[simp] theorem setTime_time (s x) : (State.setTime s x).time = x := rfl
@[simp] theorem setTime_disp (s x) : (State.setTime s x).disp = s.disp := rfl
@[simp] theorem setTime_mux (s x) : (State.setTime s x).mux = s.mux := rfl
@[simp] theorem setTime_panel (s x) : (State.setTime s x).panel = s.panel := rfl
@[simp] theorem setTime_oct (s x) : (State.setTime s x).oct = s.oct := rfl
@[simp] theorem setTime_tone (s x) : (State.setTime s x).tone = s.tone := rfl
@[simp] theorem setTime_wave (s x) : (State.setTime s x).wave = s.wave := rfl
@[simp] theorem setTime_key (s x) : (State.setTime s x).key = s.key := rfl
@[simp] theorem setTime_ie (s x) : (State.setTime s x).ie = s.ie := rfl
@[simp] theorem setTime_strobes (s x) : (State.setTime s x).strobes = s.strobes := rfl
@[simp] theorem setTime_ret (s x) : (State.setTime s x).ret = s.ret := rfl
@[simp] theorem setTime_wait (s x) : (State.setTime s x).wait = s.wait := rfl
@[simp] theorem setTime_trace (s x) : (State.setTime s x).trace = s.trace := rfl
@[simp] theorem setTime_draws (s x) : (State.setTime s x).draws = s.draws := rfl

@[simp] theorem setDisp_seq (s x) : (State.setDisp s x).seq = s.seq := rfl
@[simp] theorem setDisp_game (s x) : (State.setDisp s x).game = s.game := rfl
@[simp] theorem setDisp_deb (s x) : (State.setDisp s x).deb = s.deb := rfl
@[simp] theorem setDisp_edge (s x) : (State.setDisp s x).edge = s.edge := rfl
@[simp] theorem setDisp_time (s x) : (State.setDisp s x).time = s.time := rfl
@[simp] theorem setDisp_disp (s x) : (State.setDisp s x).disp = x := rfl
@[simp] theorem setDisp_mux (s x) : (State.setDisp s x).mux = s.mux := rfl
@[simp] theorem setDisp_panel (s x) : (State.setDisp s x).panel = s.panel := rfl
@[simp] theorem setDisp_oct (s x) : (State.setDisp s x).oct = s.oct := rfl
@[simp] theorem setDisp_tone (s x) : (State.setDisp s x).tone = s.tone := rfl
@[simp] theorem setDisp_wave (s x) : (State.setDisp s x).wave = s.wave := rfl
@[simp] theorem setDisp_key (s x) : (State.setDisp s x).key = s.key := rfl
@[simp] theorem setDisp_ie (s x) : (State.setDisp s x).ie = s.ie := rfl
@[simp] theorem setDisp_strobes (s x) : (State.setDisp s x).strobes = s.strobes := rfl
@[simp] theorem setDisp_ret (s x) : (State.setDisp s x).ret = s.ret := rfl
@[simp] theorem setDisp_wait (s x) : (State.setDisp s x).wait = s.wait := rfl
@[simp] theorem setDisp_trace (s x) : (State.setDisp s x).trace = s.trace := rfl
@[simp] theorem setDisp_draws (s x) : (State.setDisp s x).draws = s.draws := rfl

@[simp] theorem setMux_seq (s x) : (State.setMux s x).seq = s.seq := rfl
@[simp] theorem setMux_game (s x) : (State.setMux s x).game = s.game := rfl
@[simp] theorem setMux_deb (s x) : (State.setMux s x).deb = s.deb := rfl
@[simp] theorem setMux_edge (s x) : (State.setMux s x).edge = s.edge := rfl
@[simp] theorem setMux_time (s x) : (State.setMux s x).time = s.time := rfl
@[simp] theorem setMux_disp (s x) : (State.setMux s x).disp = s.disp := rfl
@[simp] theorem setMux_mux (s x) : (State.setMux s x).mux = x := rfl
@[simp] theorem setMux_panel (s x) : (State.setMux s x).panel = s.panel := rfl
@[simp] theorem setMux_oct (s x) : (State.setMux s x).oct = s.oct := rfl
@[simp] theorem setMux_tone (s x) : (State.setMux s x).tone = s.tone := rfl
@[simp] theorem setMux_wave (s x) : (State.setMux s x).wave = s.wave := rfl
@[simp] theorem setMux_key (s x) : (State.setMux s x).key = s.key := rfl
@[simp] theorem setMux_ie (s x) : (State.setMux s x).ie = s.ie := rfl
@[simp] theorem setMux_strobes (s x) : (State.setMux s x).strobes = s.strobes := rfl
@[simp] theorem setMux_ret (s x) : (State.setMux s x).ret = s.ret := rfl
@[simp] theorem setMux_wait (s x) : (State.setMux s x).wait = s.wait := rfl
@[simp] theorem setMux_trace (s x) : (State.setMux s x).trace = s.trace := rfl
@[simp] theorem setMux_draws (s x) : (State.setMux s x).draws = s.draws := rfl

@[simp] theorem setPanel_seq (s x) : (State.setPanel s x).seq = s.seq := rfl
@[simp] theorem setPanel_game (s x) : (State.setPanel s x).game = s.game := rfl
@[simp] theorem setPanel_deb (s x) : (State.setPanel s x).deb = s.deb := rfl
@[simp] theorem setPanel_edge (s x) : (State.setPanel s x).edge = s.edge := rfl
@[simp] theorem setPanel_time (s x) : (State.setPanel s x).time = s.time := rfl
@[simp] theorem setPanel_disp (s x) : (State.setPanel s x).disp = s.disp := rfl
@[simp] theorem setPanel_mux (s x) : (State.setPanel s x).mux = s.mux := rfl
@[simp] theorem setPanel_panel (s x) : (State.setPanel s x).panel = x := rfl
@[simp] theorem setPanel_oct (s x) : (State.setPanel s x).oct = s.oct := rfl
@[simp] theorem setPanel_tone (s x) : (State.setPanel s x).tone = s.tone := rfl
@[simp] theorem setPanel_wave (s x) : (State.setPanel s x).wave = s.wave := rfl
@[simp] theorem setPanel_key (s x) : (State.setPanel s x).key = s.key := rfl
@[simp] theorem setPanel_ie (s x) : (State.setPanel s x).ie = s.ie := rfl
@[simp] theorem setPanel_strobes (s x) : (State.setPanel s x).strobes = s.strobes := rfl
@[simp] theorem setPanel_ret (s x) : (State.setPanel s x).ret = s.ret := rfl
@[simp] theorem setPanel_wait (s x) : (State.setPanel s x).wait = s.wait := rfl
@[simp] theorem setPanel_trace (s x) : (State.setPanel s x).trace = s.trace := rfl
@[simp] theorem setPanel_draws (s x) : (State.setPanel s x).draws = s.draws := rfl

@[simp] theorem setOct_seq (s x) : (State.setOct s x).seq = s.seq := rfl
@[simp] theorem setOct_game (s x) : (State.setOct s x).game = s.game := rfl
@[simp] theorem setOct_deb (s x) : (State.setOct s x).deb = s.deb := rfl
@[simp] theorem setOct_edge (s x) : (State.setOct s x).edge = s.edge := rfl
@[simp] theorem setOct_time (s x) : (State.setOct s x).time = s.time := rfl
@[simp] theorem setOct_disp (s x) : (State.setOct s x).disp = s.disp := rfl
@[simp] theorem setOct_mux (s x) : (State.setOct s x).mux = s.mux := rfl
@[simp] theorem setOct_panel (s x) : (State.setOct s x).panel = s.panel := rfl
@[simp] theorem setOct_oct (s x) : (State.setOct s x).oct = x := rfl
@[simp] theorem setOct_tone (s x) : (State.setOct s x).tone = s.tone := rfl
@[simp] theorem setOct_wave (s x) : (State.setOct s x).wave = s.wave := rfl
@[simp] theorem setOct_key (s x) : (State.setOct s x).key = s.key := rfl
@[simp] theorem setOct_ie (s x) : (State.setOct s x).ie = s.ie := rfl
@[simp] theorem setOct_strobes (s x) : (State.setOct s x).strobes = s.strobes := rfl
@[simp] theorem setOct_ret (s x) : (State.setOct s x).ret = s.ret := rfl
@[simp] theorem setOct_wait (s x) : (State.setOct s x).wait = s.wait := rfl
@[simp] theorem setOct_trace (s x) : (State.setOct s x).trace = s.trace := rfl
@[simp] theorem setOct_draws (s x) : (State.setOct s x).draws = s.draws := rfl

@[simp] theorem setTone_seq (s x) : (State.setTone s x).seq = s.seq := rfl
@[simp] theorem setTone_game (s x) : (State.setTone s x).game = s.game := rfl
@[simp] theorem setTone_deb (s x) : (State.setTone s x).deb = s.deb := rfl
@[simp] theorem setTone_edge (s x) : (State.setTone s x).edge = s.edge := rfl
@[simp] theorem setTone_time (s x) : (State.setTone s x).time = s.time := rfl
@[simp] theorem setTone_disp (s x) : (State.setTone s x).disp = s.disp := rfl
@[simp] theorem setTone_mux (s x) : (State.setTone s x).mux = s.mux := rfl
@[simp] theorem setTone_panel (s x) : (State.setTone s x).panel = s.panel := rfl
@[simp] theorem setTone_oct (s x) : (State.setTone s x).oct = s.oct := rfl
@[simp] theorem setTone_tone (s x) : (State.setTone s x).tone = x := rfl
@[simp] theorem setTone_wave (s x) : (State.setTone s x).wave = s.wave := rfl
@[simp] theorem setTone_key (s x) : (State.setTone s x).key = s.key := rfl
@[simp] theorem setTone_ie (s x) : (State.setTone s x).ie = s.ie := rfl
@[simp] theorem setTone_strobes (s x) : (State.setTone s x).strobes = s.strobes := rfl
@[simp] theorem setTone_ret (s x) : (State.setTone s x).ret = s.ret := rfl
@[simp] theorem setTone_wait (s x) : (State.setTone s x).wait = s.wait := rfl
@[simp] theorem setTone_trace (s x) : (State.setTone s x).trace = s.trace := rfl
@[simp] theorem setTone_draws (s x) : (State.setTone s x).draws = s.draws := rfl

@[simp] theorem setWave_seq (s x) : (State.setWave s x).seq = s.seq := rfl
@[simp] theorem setWave_game (s x) : (State.setWave s x).game = s.game := rfl
@[simp] theorem setWave_deb (s x) : (State.setWave s x).deb = s.deb := rfl
@[simp] theorem setWave_edge (s x) : (State.setWave s x).edge = s.edge := rfl
@[simp] theorem setWave_time (s x) : (State.setWave s x).time = s.time := rfl
@[simp] theorem setWave_disp (s x) : (State.setWave s x).disp = s.disp := rfl
@[simp] theorem setWave_mux (s x) : (State.setWave s x).mux = s.mux := rfl
@[simp] theorem setWave_panel (s x) : (State.setWave s x).panel = s.panel := rfl
@[simp] theorem setWave_oct (s x) : (State.setWave s x).oct = s.oct := rfl
@[simp] theorem setWave_tone (s x) : (State.setWave s x).tone = s.tone := rfl
@[simp] theorem setWave_wave (s x) : (State.setWave s x).wave = x := rfl
@[simp] theorem setWave_key (s x) : (State.setWave s x).key = s.key := rfl
@[simp] theorem setWave_ie (s x) : (State.setWave s x).ie = s.ie := rfl
@[simp] theorem setWave_strobes (s x) : (State.setWave s x).strobes = s.strobes := rfl
@[simp] theorem setWave_ret (s x) : (State.setWave s x).ret = s.ret := rfl
@[simp] theorem setWave_wait (s x) : (State.setWave s x).wait = s.wait := rfl
@[simp] theorem setWave_trace (s x) : (State.setWave s x).trace = s.trace := rfl
@[simp] theorem setWave_draws (s x) : (State.setWave s x).draws = s.draws := rfl

@[simp] theorem setKey_seq (s x) : (State.setKey s x).seq = s.seq := rfl
@[simp] theorem setKey_game (s x) : (State.setKey s x).game = s.game := rfl
@[simp] theorem setKey_deb (s x) : (State.setKey s x).deb = s.deb := rfl
@[simp] theorem setKey_edge (s x) : (State.setKey s x).edge = s.edge := rfl
@[simp] theorem setKey_time (s x) : (State.setKey s x).time = s.time := rfl
@[simp] theorem setKey_disp (s x) : (State.setKey s x).disp = s.disp := rfl
@[simp] theorem setKey_mux (s x) : (State.setKey s x).mux = s.mux := rfl
@[simp] theorem setKey_panel (s x) : (State.setKey s x).panel = s.panel := rfl
@[simp] theorem setKey_oct (s x) : (State.setKey s x).oct = s.oct := rfl
@[simp] theorem setKey_tone (s x) : (State.setKey s x).tone = s.tone := rfl
@[simp] theorem setKey_wave (s x) : (State.setKey s x).wave = s.wave := rfl
@[simp] theorem setKey_key (s x) : (State.setKey s x).key = x := rfl
@[simp] theorem setKey_ie (s x) : (State.setKey s x).ie = s.ie := rfl
@[simp] theorem setKey_strobes (s x) : (State.setKey s x).strobes = s.strobes := rfl
@[simp] theorem setKey_ret (s x) : (State.setKey s x).ret = s.ret := rfl
@[simp] theorem setKey_wait (s x) : (State.setKey s x).wait = s.wait := rfl
@[simp] theorem setKey_trace (s x) : (State.setKey s x).trace = s.trace := rfl
@[simp] theorem setKey_draws (s x) : (State.setKey s x).draws = s.draws := rfl

@[simp] theorem setIe_seq (s x) : (State.setIe s x).seq = s.seq := rfl
@[simp] theorem setIe_game (s x) : (State.setIe s x).game = s.game := rfl
@[simp] theorem setIe_deb (s x) : (State.setIe s x).deb = s.deb := rfl
@[simp] theorem setIe_edge (s x) : (State.setIe s x).edge = s.edge := rfl
@[simp] theorem setIe_time (s x) : (State.setIe s x).time = s.time := rfl
@[simp] theorem setIe_disp (s x) : (State.setIe s x).disp = s.disp := rfl
@[simp] theorem setIe_mux (s x) : (State.setIe s x).mux = s.mux := rfl
@[simp] theorem setIe_panel (s x) : (State.setIe s x).panel = s.panel := rfl
@[simp] theorem setIe_oct (s x) : (State.setIe s x).oct = s.oct := rfl
@[simp] theorem setIe_tone (s x) : (State.setIe s x).tone = s.tone := rfl
@[simp] theorem setIe_wave (s x) : (State.setIe s x).wave = s.wave := rfl
@[simp] theorem setIe_key (s x) : (State.setIe s x).key = s.key := rfl
@[simp] theorem setIe_ie (s x) : (State.setIe s x).ie = x := rfl
@[simp] theorem setIe_strobes (s x) : (State.setIe s x).strobes = s.strobes := rfl
@[simp] theorem setIe_ret (s x) : (State.setIe s x).ret = s.ret := rfl
@[simp] theorem setIe_wait (s x) : (State.setIe s x).wait = s.wait := rfl
@[simp] theorem setIe_trace (s x) : (State.setIe s x).trace = s.trace := rfl
@[simp] theorem setIe_draws (s x) : (State.setIe s x).draws = s.draws := rfl

@[simp] theorem setStrobes_seq (s x) : (State.setStrobes s x).seq = s.seq := rfl
@[simp] theorem setStrobes_game (s x) : (State.setStrobes s x).game = s.game := rfl
@[simp] theorem setStrobes_deb (s x) : (State.setStrobes s x).deb = s.deb := rfl
@[simp] theorem setStrobes_edge (s x) : (State.setStrobes s x).edge = s.edge := rfl
@[simp] theorem setStrobes_time (s x) : (State.setStrobes s x).time = s.time := rfl
@[simp] theorem setStrobes_disp (s x) : (State.setStrobes s x).disp = s.disp := rfl
@[simp] theorem setStrobes_mux (s x) : (State.setStrobes s x).mux = s.mux := rfl
@[simp] theorem setStrobes_panel (s x) : (State.setStrobes s x).panel = s.panel := rfl
@[simp] theorem setStrobes_oct (s x) : (State.setStrobes s x).oct = s.oct := rfl
@[simp] theorem setStrobes_tone (s x) : (State.setStrobes s x).tone = s.tone := rfl
@[simp] theorem setStrobes_wave (s x) : (State.setStrobes s x).wave = s.wave := rfl
@[simp] theorem setStrobes_key (s x) : (State.setStrobes s x).key = s.key := rfl
@[simp] theorem setStrobes_ie (s x) : (State.setStrobes s x).ie = s.ie := rfl
@[simp] theorem setStrobes_strobes (s x) : (State.setStrobes s x).strobes = x := rfl
@[simp] theorem setStrobes_ret (s x) : (State.setStrobes s x).ret = s.ret := rfl
@[simp] theorem setStrobes_wait (s x) : (State.setStrobes s x).wait = s.wait := rfl
@[simp] theorem setStrobes_trace (s x) : (State.setStrobes s x).trace = s.trace := rfl
@[simp] theorem setStrobes_draws (s x) : (State.setStrobes s x).draws = s.draws := rfl

@[simp] theorem setRet_seq (s x) : (State.setRet s x).seq = s.seq := rfl
@[simp] theorem setRet_game (s x) : (State.setRet s x).game = s.game := rfl
@[simp] theorem setRet_deb (s x) : (State.setRet s x).deb = s.deb := rfl
@[simp] theorem setRet_edge (s x) : (State.setRet s x).edge = s.edge := rfl
@[simp] theorem setRet_time (s x) : (State.setRet s x).time = s.time := rfl
@[simp] theorem setRet_disp (s x) : (State.setRet s x).disp = s.disp := rfl
@[simp] theorem setRet_mux (s x) : (State.setRet s x).mux = s.mux := rfl
@[simp] theorem setRet_panel (s x) : (State.setRet s x).panel = s.panel := rfl
@[simp] theorem setRet_oct (s x) : (State.setRet s x).oct = s.oct := rfl
@[simp] theorem setRet_tone (s x) : (State.setRet s x).tone = s.tone := rfl
@[simp] theorem setRet_wave (s x) : (State.setRet s x).wave = s.wave := rfl
@[simp] theorem setRet_key (s x) : (State.setRet s x).key = s.key := rfl
@[simp] theorem setRet_ie (s x) : (State.setRet s x).ie = s.ie := rfl
@[simp] theorem setRet_strobes (s x) : (State.setRet s x).strobes = s.strobes := rfl
@[simp] theorem setRet_ret (s x) : (State.setRet s x).ret = x := rfl
@[simp] theorem setRet_wait (s x) : (State.setRet s x).wait = s.wait := rfl
@[simp] theorem setRet_trace (s x) : (State.setRet s x).trace = s.trace := rfl
@[simp] theorem setRet_draws (s x) : (State.setRet s x).draws = s.draws := rfl

@[simp] theorem setWait_seq (s x) : (State.setWait s x).seq = s.seq := rfl
@[simp] theorem setWait_game (s x) : (State.setWait s x).game = s.game := rfl
@[simp] theorem setWait_deb (s x) : (State.setWait s x).deb = s.deb := rfl
@[simp] theorem setWait_edge (s x) : (State.setWait s x).edge = s.edge := rfl
@[simp] theorem setWait_time (s x) : (State.setWait s x).time = s.time := rfl
@[simp] theorem setWait_disp (s x) : (State.setWait s x).disp = s.disp := rfl
@[simp] theorem setWait_mux (s x) : (State.setWait s x).mux = s.mux := rfl
@[simp] theorem setWait_panel (s x) : (State.setWait s x).panel = s.panel := rfl
@[simp] theorem setWait_oct (s x) : (State.setWait s x).oct = s.oct := rfl
@[simp] theorem setWait_tone (s x) : (State.setWait s x).tone = s.tone := rfl
@[simp] theorem setWait_wave (s x) : (State.setWait s x).wave = s.wave := rfl
@[simp] theorem setWait_key (s x) : (State.setWait s x).key = s.key := rfl
@[simp] theorem setWait_ie (s x) : (State.setWait s x).ie = s.ie := rfl
@[simp] theorem setWait_strobes (s x) : (State.setWait s x).strobes = s.strobes := rfl
@[simp] theorem setWait_ret (s x) : (State.setWait s x).ret = s.ret := rfl
@[simp] theorem setWait_wait (s x) : (State.setWait s x).wait = x := rfl
@[simp] theorem setWait_trace (s x) : (State.setWait s x).trace = s.trace := rfl
@[simp] theorem setWait_draws (s x) : (State.setWait s x).draws = s.draws := rfl

@[simp] theorem setTrace_seq (s x) : (State.setTrace s x).seq = s.seq := rfl
@[simp] theorem setTrace_game (s x) : (State.setTrace s x).game = s.game := rfl
@[simp] theorem setTrace_deb (s x) : (State.setTrace s x).deb = s.deb := rfl
@[simp] theorem setTrace_edge (s x) : (State.setTrace s x).edge = s.edge := rfl
@[simp] theorem setTrace_time (s x) : (State.setTrace s x).time = s.time := rfl
@[simp] theorem setTrace_disp (s x) : (State.setTrace s x).disp = s.disp := rfl
@[simp] theorem setTrace_mux (s x) : (State.setTrace s x).mux = s.mux := rfl
@[simp] theorem setTrace_panel (s x) : (State.setTrace s x).panel = s.panel := rfl
@[simp] theorem setTrace_oct (s x) : (State.setTrace s x).oct = s.oct := rfl
@[simp] theorem setTrace_tone (s x) : (State.setTrace s x).tone = s.tone := rfl
@[simp] theorem setTrace_wave (s x) : (State.setTrace s x).wave = s.wave := rfl
@[simp] theorem setTrace_key (s x) : (State.setTrace s x).key = s.key := rfl
@[simp] theorem setTrace_ie (s x) : (State.setTrace s x).ie = s.ie := rfl
@[simp] theorem setTrace_strobes (s x) : (State.setTrace s x).strobes = s.strobes := rfl
@[simp] theorem setTrace_ret (s x) : (State.setTrace s x).ret = s.ret := rfl
@[simp] theorem setTrace_wait (s x) : (State.setTrace s x).wait = s.wait := rfl
@[simp] theorem setTrace_trace (s x) : (State.setTrace s x).trace = x := rfl
@[simp] theorem setTrace_draws (s x) : (State.setTrace s x).draws = s.draws := rfl

@[simp] theorem setDraws_seq (s x) : (State.setDraws s x).seq = s.seq := rfl
@[simp] theorem setDraws_game (s x) : (State.setDraws s x).game = s.game := rfl
@[simp] theorem setDraws_deb (s x) : (State.setDraws s x).deb = s.deb := rfl
@[simp] theorem setDraws_edge (s x) : (State.setDraws s x).edge = s.edge := rfl
@[simp] theorem setDraws_time (s x) : (State.setDraws s x).time = s.time := rfl
@[simp] theorem setDraws_disp (s x) : (State.setDraws s x).disp = s.disp := rfl
@[simp] theorem setDraws_mux (s x) : (State.setDraws s x).mux = s.mux := rfl
@[simp] theorem setDraws_panel (s x) : (State.setDraws s x).panel = s.panel := rfl
@[simp] theorem setDraws_oct (s x) : (State.setDraws s x).oct = s.oct := rfl
@[simp] theorem setDraws_tone (s x) : (State.setDraws s x).tone = s.tone := rfl
@[simp] theorem setDraws_wave (s x) : (State.setDraws s x).wave = s.wave := rfl
@[simp] theorem setDraws_key (s x) : (State.setDraws s x).key = s.key := rfl
@[simp] theorem setDraws_ie (s x) : (State.setDraws s x).ie = s.ie := rfl
@[simp] theorem setDraws_strobes (s x) : (State.setDraws s x).strobes = s.strobes := rfl
@[simp] theorem setDraws_ret (s x) : (State.setDraws s x).ret = s.ret := rfl
@[simp] theorem setDraws_wait (s x) : (State.setDraws s x).wait = s.wait := rfl
@[simp] theorem setDraws_trace (s x) : (State.setDraws s x).trace = s.trace := rfl
@[simp] theorem setDraws_draws (s x) : (State.setDraws s x).draws = x := rfl

end Sys2Proof.Machine
end

