-- ==== Sys2Proof/Laws/Ops.lean ====
section
/-! SUPPORT. One lemma per shared operation, saying everything it can do; proofs cite these instead of unfolding. -/
namespace Sys2Proof.Machine

/-! ## Taking an event -/

theorem takeEvent_enabled (h : State → Answer) {s : State} (hs : s.ie = true) : takeEvent h s = h s := by
  simp [takeEvent, hs]

theorem takeEvent_disabled (h : State → Answer) {s : State} (hs : s.ie = false) : takeEvent h s = .next s := by
  simp [takeEvent, hs]

/-- A taken event that answers a next state: events were enabled and its handler answered it, or nothing changed. -/
theorem takeEvent_next {h : State → Answer} {s t : State} (ht : takeEvent h s = .next t) :
    (s.ie = true ∧ h s = .next t) ∨ (s.ie = false ∧ t = s) := by
  cases hs : s.ie
  · rw [takeEvent_disabled h hs] at ht
    exact .inr ⟨rfl, by cases ht; rfl⟩
  · rw [takeEvent_enabled h hs] at ht
    exact .inl ⟨rfl, ht⟩

theorem onNext_next {a : Answer} {f : State → State} {t : State} (h : onNext a f = .next t) :
    ∃ u, a = .next u ∧ t = f u := by
  cases a <;> simp [onNext] at h
  exact ⟨_, rfl, h.symm⟩

/-! ## The component operations: everything else stays -/

theorem lfsrAdvance_eq (P : Params) (s : State) :
    lfsrAdvance P s =
      { s with seq :=
        { s.seq with
          lfsrState := lfsrNext P.lfsrMask s.seq.lfsrState
          result := s.seq.lfsrState.getLsbD 0
          stepVal := stepOf (lfsrNext P.lfsrMask s.seq.lfsrState) } } := rfl

theorem lfsrSeed_eq (s : State) : lfsrSeed s = { s with seq := { s.seq with lfsrState := s.seq.reInit } } := rfl

theorem lfsrSave_eq (s : State) : lfsrSave s = { s with seq := { s.seq with reInit := s.seq.lfsrState } } := rfl

theorem dbTick_eq (P : Params) (raw : Byte) (s : State) :
    dbTick P raw s = { s with deb := debounce P.debounceN raw s.deb } := rfl

theorem edgeSample_eq (s : State) : edgeSample s = { s with edge := edgesOf s.edge.pbCurr s.deb.pbDeb } := rfl

theorem tmrTick_eq (s : State) : tmrTick s = { s with time := { s.time with elapsed := s.time.elapsed + 1 } } := rfl

theorem tmrReset_eq (s : State) : tmrReset s = { s with time := { s.time with elapsed := 0 } } := rfl

theorem tmrPrepare_ready (v : Byte) (s : State) :
    tmrPrepare true v s =
      { s with
        time := { s.time with playbackDelay := delayOf v, delayReady := true }
        strobes := { s.strobes with adcReq := true, adcAck := true } } := by
  simp [tmrPrepare, State.setTime, State.setStrobes]

theorem tmrPrepare_notReady (v : Byte) (s : State) :
    tmrPrepare false v s =
      { s with
        time := { s.time with delayReady := false }
        strobes := { s.strobes with adcReq := true } } := by
  simp [tmrPrepare, State.setTime, State.setStrobes]

theorem tmrWait_eq (k : WaitKind) (s : State) :
    tmrWait k s = { s with time := { s.time with elapsed := 0 }, wait := some k } := rfl

theorem dispSet_eq (l r : Seg) (s : State) : dispSet l r s = { s with disp := ⟨leftByte l, rightByte r⟩ } := rfl

theorem dispRender_eq (P : Params) (idx : BarIdx) (s : State) :
    dispRender P idx s = { s with disp := ⟨leftByte (barPatterns P idx).1, rightByte (barPatterns P idx).2⟩ } := rfl

theorem dispBlank_eq (P : Params) (s : State) :
    dispBlank P s = { s with disp := ⟨leftByte P.segBlank, rightByte P.segBlank⟩ } := rfl

/-- `DISP.TICK` answers exactly when no transfer is in flight. -/
theorem dispTick_next {s t : State} (h : dispTick s = .next t) : s.mux.xferBusy = false ∧ t = shipByte s := by
  unfold dispTick at h
  cases hb : s.mux.xferBusy <;> rw [hb] at h <;> cases h
  exact ⟨rfl, rfl⟩

theorem dispTick_idle {s : State} (h : s.mux.xferBusy = false) : dispTick s = .next (shipByte s) := by
  simp [dispTick, h]

theorem dispTick_busy {s : State} (h : s.mux.xferBusy = true) : dispTick s = .fault .transferOverrun := by
  simp [dispTick, h]

theorem shipByte_eq (s : State) :
    shipByte s =
      { s with
        mux := { dispSel := !s.mux.dispSel, txByte := if s.mux.dispSel then s.disp.dispR else s.disp.dispL, xferBusy := true }
        strobes := { s.strobes with spiStart := true } } := rfl

theorem dispLatch_eq (s : State) :
    dispLatch s =
      { s with
        mux := { s.mux with xferBusy := false }
        panel := latchPanel s.mux.txByte s.panel
        strobes := { s.strobes with dispLatch := true } } := rfl

theorem onesDigit_lt (n : Byte) : onesDigit n < 11 := by
  unfold onesDigit; omega

/-- The tens digit has an entry exactly below 110. -/
theorem tensDigit_lt_iff (n : Byte) : tensDigit n < 11 ↔ n.toNat < 110 := by
  unfold tensDigit; split <;> omega

/-- `DISP.DIGITS` below 110: both digits have an entry. -/
theorem dispDigits_lt (P : Params) {n : Byte} (h : n.toNat < 110) (s : State) :
    dispDigits P n s =
      .next (dispSet (P.segDigit ⟨tensDigit n, (tensDigit_lt_iff n).2 h⟩) (P.segDigit ⟨onesDigit n, onesDigit_lt n⟩) s) := by
  simp [dispDigits, segOfDigit, (tensDigit_lt_iff n).2 h, onesDigit_lt n]

/-- `DISP.DIGITS` from 110 on: the fault. -/
theorem dispDigits_ge (P : Params) {n : Byte} (h : 110 ≤ n.toNat) (s : State) :
    dispDigits P n s = .fault .digitOutOfTable := by
  have h' : ¬ tensDigit n < 11 := fun hlt => by have := (tensDigit_lt_iff n).1 hlt; omega
  simp [dispDigits, segOfDigit, h']

theorem toneOn_eq (P : Params) (i : LB) (s : State) :
    toneOn P i s = { s with tone := ⟨tonePeriod P i s.oct, tonePeriod P i s.oct >>> 1⟩ } := rfl

theorem toneOff_eq (s : State) : toneOff s = { s with tone := { s.tone with pwmCmp := 0 } } := rfl

theorem octInc_eq (s : State) : octInc s = { s with oct := octaveUp s.oct } := rfl

theorem octDec_eq (s : State) : octDec s = { s with oct := octaveDown s.oct } := rfl

/-- Octave steps saturate and never wrap. -/
theorem octaveUp_value (o : Octave) : (octaveUp o).value = min 3 (o.value + 1) := by cases o <;> decide

theorem octaveDown_value (o : Octave) : (octaveDown o).value = max (-3) (o.value - 1) := by cases o <;> decide

theorem pwmClk_eq (s : State) :
    pwmClk s = { s with wave := ⟨waveCount s.tone s.wave, waveOut s.tone (waveCount s.tone s.wave)⟩ } := rfl

theorem keyPress_player {s : State} (i : LB) (h : s.game.stage = .player) :
    keyPress i s = { s with key := ⟨true, i⟩ } := by simp [keyPress, h, State.setKey]

theorem keyPress_other {s : State} (i : LB) (h : s.game.stage ≠ .player) : keyPress i s = s := by simp [keyPress, h]

theorem keyClear_eq (s : State) : keyClear s = { s with key := { s.key with keyp := false } } := rfl

/-- A received character touches the keys or the octave, and nothing else. -/
theorem rxCommand_eq (c : Byte) (s : State) : ∃ k o, rxCommand c s = { s with key := k, oct := o } := by
  have press : ∀ i, ∃ k o, keyPress i s = { s with key := k, oct := o } := fun i => by
    by_cases h : s.game.stage = .player
    · exact ⟨⟨true, i⟩, s.oct, by rw [keyPress_player i h]⟩
    · exact ⟨s.key, s.oct, by rw [keyPress_other i h]⟩
  unfold rxCommand
  split <;> first
    | exact press _
    | exact ⟨s.key, _, rfl⟩
    | exact ⟨_, s.oct, rfl⟩

/-! ## The debouncer, bit by bit -/

theorem getLsbD_byteOfBits (f : Nat → Bool) {b : Nat} (h : b < 8) : (byteOfBits f).getLsbD b = f b := by
  have eight : ∀ g0 g1 g2 g3 g4 g5 g6 g7 : Bool,
      let x : Byte := BitVec.ofBool g7 ++ (BitVec.ofBool g6 ++ (BitVec.ofBool g5 ++ (BitVec.ofBool g4 ++
        (BitVec.ofBool g3 ++ (BitVec.ofBool g2 ++ (BitVec.ofBool g1 ++ BitVec.ofBool g0))))))
      x.getLsbD 0 = g0 ∧ x.getLsbD 1 = g1 ∧ x.getLsbD 2 = g2 ∧ x.getLsbD 3 = g3 ∧
        x.getLsbD 4 = g4 ∧ x.getLsbD 5 = g5 ∧ x.getLsbD 6 = g6 ∧ x.getLsbD 7 = g7 := by decide
  obtain ⟨h0, h1, h2, h3, h4, h5, h6, h7⟩ := eight (f 0) (f 1) (f 2) (f 3) (f 4) (f 5) (f 6) (f 7)
  have : b = 0 ∨ b = 1 ∨ b = 2 ∨ b = 3 ∨ b = 4 ∨ b = 5 ∨ b = 6 ∨ b = 7 := by omega
  rcases this with rfl | rfl | rfl | rfl | rfl | rfl | rfl | rfl <;> assumption

/-- `DB.TICK` treats every bit on its own. -/
theorem debounce_bitAt (N : DebounceN) (raw : Byte) (d : Deb) {b : Nat} (h : b < 8) :
    (debounce N raw d).bitAt b = debounceBit N (raw.getLsbD b) (d.bitAt b) := by
  simp [Deb.bitAt, debounce, getLsbD_byteOfBits _ h]

/-- A tick keeps every count below the window. -/
theorem debounceBit_cnt_lt (N : DebounceN) (raw : Bool) {d : DebBit} (h : d.cnt < N.count) :
    (debounceBit N raw d).cnt < N.count := by
  revert h
  obtain ⟨deb, hi, lo⟩ := d
  cases N <;> cases raw <;> cases deb <;> cases hi <;> cases lo <;> decide

/-- The delay of a sample, 250 to 1984 (42 R86). -/
theorem delayOf_toNat (v : Byte) : (delayOf v).toNat = (34 * v.toNat + 2) / 5 + 250 := by
  have h := v.isLt
  rw [delayOf, BitVec.toNat_ofNat, Nat.mod_eq_of_lt (by omega)]

theorem leftByte_mark (l : Seg) : (leftByte l).getLsbD 7 = true := by
  revert l; unfold leftByte Config.leftMark; decide

theorem rightByte_mark (r : Seg) : (rightByte r).getLsbD 7 = false := by
  revert r; unfold rightByte; decide

/-! ## The foreground -/

theorem reached_iff (th : Half) (s : State) : reached th s = true ↔ th.toNat ≤ s.time.elapsed.toNat := by simp [reached]

theorem halfDelay_toNat (t : Time) : (halfDelay t).toNat = t.playbackDelay.toNat / 2 := by
  simp [halfDelay, Nat.shiftRight_eq_div_pow]

/-- A poll of a wait ends it at its threshold and otherwise changes nothing. -/
theorem pollWait_eq (k : WaitKind) (s : State) :
    pollWait k s = { s with wait := if reached (waitThreshold k s) s then none else s.wait } := by
  unfold pollWait; split <;> rfl

theorem playStep_eq (P : Params) (s : State) :
    playStep P s = tmrReset (dispRender P ((lfsrAdvance P s).seq.stepVal.setWidth 3) (toneOn P (lfsrAdvance P s).seq.stepVal (lfsrAdvance P s))) :=
  rfl

/-- What recognising a press writes, and that it writes nothing else. -/
theorem recognise_eq (P : Params) (i : LB) (s : State) :
    recognise P i s =
      { s with
        seq := (lfsrAdvance P s).seq
        time := { s.time with elapsed := 0 }
        game :=
          { s.game with
            inputCnt := s.game.inputCnt + 1
            srcKey := keyFor s i && !pressEdge P s i
            released := false
            slot := Slot.held i }
        key := { s.key with keyp := if keyFor s i then false else s.key.keyp } } := by
  unfold recognise
  cases keyFor s i <;> rfl

/-- The WAIT scan finds nothing, or the lowest button with an edge or a key. -/
theorem scanPress_cases (P : Params) (s : State) :
    (scanPress P s = none ∧ ∀ i, pressEdge P s i = false ∧ keyFor s i = false) ∨
      ∃ i, scanPress P s = some i ∧ (pressEdge P s i = true ∨ keyFor s i = true) ∧
        ∀ j : LB, j.toNat < i.toNat → pressEdge P s j = false ∧ keyFor s j = false := by
  have every : ∀ i : LB, i = 0 ∨ i = 1 ∨ i = 2 ∨ i = 3 := by decide
  have below : ∀ n : LB, ∀ j : LB, j.toNat < n.toNat → j = 0 ∨ (j = 1 ∧ n ≠ 1) ∨ (j = 2 ∧ n = 3) := by decide
  unfold scanPress
  simp only [List.find?]
  cases h0 : (pressEdge P s 0 || keyFor s 0)
  · rw [Bool.or_eq_false_iff] at h0
    cases h1 : (pressEdge P s 1 || keyFor s 1)
    · rw [Bool.or_eq_false_iff] at h1
      cases h2 : (pressEdge P s 2 || keyFor s 2)
      · rw [Bool.or_eq_false_iff] at h2
        cases h3 : (pressEdge P s 3 || keyFor s 3)
        · rw [Bool.or_eq_false_iff] at h3
          exact .inl ⟨rfl, fun i => by rcases every i with rfl | rfl | rfl | rfl <;> assumption⟩
        · refine .inr ⟨3, rfl, by simpa using h3, fun j hj => ?_⟩
          rcases below _ j hj with rfl | ⟨rfl, -⟩ | ⟨rfl, -⟩ <;> assumption
      · refine .inr ⟨2, rfl, by simpa using h2, fun j hj => ?_⟩
        rcases below _ j hj with rfl | ⟨rfl, -⟩ | ⟨-, h⟩
        · assumption
        · assumption
        · exact absurd h (by decide)
    · refine .inr ⟨1, rfl, by simpa using h1, fun j hj => ?_⟩
      rcases below _ j hj with rfl | ⟨-, h⟩ | ⟨-, h⟩
      · assumption
      · exact absurd rfl h
      · exact absurd h (by decide)
  · exact .inr ⟨0, rfl, by simpa using h0, fun j hj => absurd hj (Nat.not_lt_zero _)⟩

theorem holdButton_eq (P : Params) (i : LB) (s : State) :
    holdButton P i s =
      { s with
        tone := (toneOn P i s).tone
        disp := (dispRender P (i.setWidth 3) s).disp
        game :=
          { s.game with
            incorrect := s.game.incorrect || decide (i ≠ s.seq.stepVal)
            released := s.game.released || releaseEdge P s i || s.game.srcKey } } := rfl

theorem finishInput_eq (P : Params) (s : State) :
    finishInput P s =
      { s with
        tone := { s.tone with pwmCmp := 0 }
        disp := (dispBlank P s).disp
        game := { s.game with consumed := true, slot := .wait } } := rfl

theorem goPhase_eq (ph : Phase) (s : State) : goPhase ph s = { s with game := { s.game with fgPh := ph } } := rfl

/-- `FG.FAIL_WAIT1` that answers a next state: it still polls, or it shows the score and starts the second wait. -/
theorem microFailWait1_next {P : Params} {s t : State} (h : microFailWait1 P s = .next t) :
    (reached s.time.playbackDelay s = false ∧ t = s) ∨
      (reached s.time.playbackDelay s = true ∧
        ∃ u, dispDigits P s.game.seqLen s = .next u ∧ t = goPhase .failWait2 (tmrReset u)) := by
  unfold microFailWait1 at h
  cases hr : reached s.time.playbackDelay s <;> simp [hr] at h
  · exact .inl ⟨rfl, h.symm⟩
  · exact .inr ⟨rfl, onNext_next h⟩

end Sys2Proof.Machine
end

