-- ==== Sys2Proof/Laws/PerInstr.lean ====
section
/-! SUPPORT. What holds of every instruction's encoding, one lemma a constructor. -/
namespace Sys2Proof.Laws

/-- The number of code bits of a format (30_encoding R55). -/
def codeBits : Format → Nat
  | .rxchar => 8 | .event => 5 | .fgph => 7 | .opsel => 5 | .stim => 14

/-- An instruction's code has no bit above its format's width, and its bytes are at most three. -/
def EncodingFits.Statement (i : Instr) : Prop :=
  (codeOf i).toNat < 2 ^ codeBits (formatOf i) ∧ (encodeBytes i).length ≤ 3

theorem EncodingFits.rxDigit1 : EncodingFits.Statement .rxDigit1 := ⟨Nat.le_of_ble_eq_true rfl, Nat.le_of_ble_eq_true rfl⟩
theorem EncodingFits.rxQ : EncodingFits.Statement .rxQ := ⟨Nat.le_of_ble_eq_true rfl, Nat.le_of_ble_eq_true rfl⟩
theorem EncodingFits.rxDigit2 : EncodingFits.Statement .rxDigit2 := ⟨Nat.le_of_ble_eq_true rfl, Nat.le_of_ble_eq_true rfl⟩
theorem EncodingFits.rxW : EncodingFits.Statement .rxW := ⟨Nat.le_of_ble_eq_true rfl, Nat.le_of_ble_eq_true rfl⟩
theorem EncodingFits.rxDigit3 : EncodingFits.Statement .rxDigit3 := ⟨Nat.le_of_ble_eq_true rfl, Nat.le_of_ble_eq_true rfl⟩
theorem EncodingFits.rxE : EncodingFits.Statement .rxE := ⟨Nat.le_of_ble_eq_true rfl, Nat.le_of_ble_eq_true rfl⟩
theorem EncodingFits.rxDigit4 : EncodingFits.Statement .rxDigit4 := ⟨Nat.le_of_ble_eq_true rfl, Nat.le_of_ble_eq_true rfl⟩
theorem EncodingFits.rxR : EncodingFits.Statement .rxR := ⟨Nat.le_of_ble_eq_true rfl, Nat.le_of_ble_eq_true rfl⟩
theorem EncodingFits.rxComma : EncodingFits.Statement .rxComma := ⟨Nat.le_of_ble_eq_true rfl, Nat.le_of_ble_eq_true rfl⟩
theorem EncodingFits.rxK : EncodingFits.Statement .rxK := ⟨Nat.le_of_ble_eq_true rfl, Nat.le_of_ble_eq_true rfl⟩
theorem EncodingFits.rxPeriod : EncodingFits.Statement .rxPeriod := ⟨Nat.le_of_ble_eq_true rfl, Nat.le_of_ble_eq_true rfl⟩
theorem EncodingFits.rxL : EncodingFits.Statement .rxL := ⟨Nat.le_of_ble_eq_true rfl, Nat.le_of_ble_eq_true rfl⟩
theorem EncodingFits.rxOther (c : Byte) : EncodingFits.Statement (.rxOther c) := ⟨c.isLt, Nat.le_of_ble_eq_true rfl⟩
theorem EncodingFits.fgStep (r : Bool) (v : Byte) : EncodingFits.Statement (.fgStep r v) := ⟨Nat.le_of_ble_eq_true rfl, Nat.le_of_ble_eq_true rfl⟩
theorem EncodingFits.evT1 : EncodingFits.Statement .evT1 := ⟨Nat.le_of_ble_eq_true rfl, Nat.le_of_ble_eq_true rfl⟩
theorem EncodingFits.evT5 (raw : Byte) : EncodingFits.Statement (.evT5 raw) := ⟨Nat.le_of_ble_eq_true rfl, Nat.le_of_ble_eq_true rfl⟩
theorem EncodingFits.evXd : EncodingFits.Statement .evXd := ⟨Nat.le_of_ble_eq_true rfl, Nat.le_of_ble_eq_true rfl⟩
theorem EncodingFits.evRx (c : Byte) : EncodingFits.Statement (.evRx c) := ⟨Nat.le_of_ble_eq_true rfl, Nat.le_of_ble_eq_true rfl⟩
theorem EncodingFits.evPwmClk : EncodingFits.Statement .evPwmClk := ⟨Nat.le_of_ble_eq_true rfl, Nat.le_of_ble_eq_true rfl⟩
theorem EncodingFits.fgBoot : EncodingFits.Statement .fgBoot := ⟨Nat.le_of_ble_eq_true rfl, Nat.le_of_ble_eq_true rfl⟩
theorem EncodingFits.fgTop : EncodingFits.Statement .fgTop := ⟨Nat.le_of_ble_eq_true rfl, Nat.le_of_ble_eq_true rfl⟩
theorem EncodingFits.fgInit : EncodingFits.Statement .fgInit := ⟨Nat.le_of_ble_eq_true rfl, Nat.le_of_ble_eq_true rfl⟩
theorem EncodingFits.fgSimPrep (r : Bool) (v : Byte) : EncodingFits.Statement (.fgSimPrep r v) := ⟨Nat.le_of_ble_eq_true rfl, Nat.le_of_ble_eq_true rfl⟩
theorem EncodingFits.fgSimNext : EncodingFits.Statement .fgSimNext := ⟨Nat.le_of_ble_eq_true rfl, Nat.le_of_ble_eq_true rfl⟩
theorem EncodingFits.fgSimOnWait : EncodingFits.Statement .fgSimOnWait := ⟨Nat.le_of_ble_eq_true rfl, Nat.le_of_ble_eq_true rfl⟩
theorem EncodingFits.fgSimOffWait : EncodingFits.Statement .fgSimOffWait := ⟨Nat.le_of_ble_eq_true rfl, Nat.le_of_ble_eq_true rfl⟩
theorem EncodingFits.fgSimDone : EncodingFits.Statement .fgSimDone := ⟨Nat.le_of_ble_eq_true rfl, Nat.le_of_ble_eq_true rfl⟩
theorem EncodingFits.fgPlySubWait : EncodingFits.Statement .fgPlySubWait := ⟨Nat.le_of_ble_eq_true rfl, Nat.le_of_ble_eq_true rfl⟩
theorem EncodingFits.fgPlySubB1 : EncodingFits.Statement .fgPlySubB1 := ⟨Nat.le_of_ble_eq_true rfl, Nat.le_of_ble_eq_true rfl⟩
theorem EncodingFits.fgPlySubB2 : EncodingFits.Statement .fgPlySubB2 := ⟨Nat.le_of_ble_eq_true rfl, Nat.le_of_ble_eq_true rfl⟩
theorem EncodingFits.fgPlySubB3 : EncodingFits.Statement .fgPlySubB3 := ⟨Nat.le_of_ble_eq_true rfl, Nat.le_of_ble_eq_true rfl⟩
theorem EncodingFits.fgPlySubB4 : EncodingFits.Statement .fgPlySubB4 := ⟨Nat.le_of_ble_eq_true rfl, Nat.le_of_ble_eq_true rfl⟩
theorem EncodingFits.fgPlyPost : EncodingFits.Statement .fgPlyPost := ⟨Nat.le_of_ble_eq_true rfl, Nat.le_of_ble_eq_true rfl⟩
theorem EncodingFits.fgSucShow : EncodingFits.Statement .fgSucShow := ⟨Nat.le_of_ble_eq_true rfl, Nat.le_of_ble_eq_true rfl⟩
theorem EncodingFits.fgSucWait : EncodingFits.Statement .fgSucWait := ⟨Nat.le_of_ble_eq_true rfl, Nat.le_of_ble_eq_true rfl⟩
theorem EncodingFits.fgFailShow : EncodingFits.Statement .fgFailShow := ⟨Nat.le_of_ble_eq_true rfl, Nat.le_of_ble_eq_true rfl⟩
theorem EncodingFits.fgFailWait1 : EncodingFits.Statement .fgFailWait1 := ⟨Nat.le_of_ble_eq_true rfl, Nat.le_of_ble_eq_true rfl⟩
theorem EncodingFits.fgFailWait2 : EncodingFits.Statement .fgFailWait2 := ⟨Nat.le_of_ble_eq_true rfl, Nat.le_of_ble_eq_true rfl⟩
theorem EncodingFits.lfsrAdvance : EncodingFits.Statement .lfsrAdvance := ⟨Nat.le_of_ble_eq_true rfl, Nat.le_of_ble_eq_true rfl⟩
theorem EncodingFits.lfsrSeed : EncodingFits.Statement .lfsrSeed := ⟨Nat.le_of_ble_eq_true rfl, Nat.le_of_ble_eq_true rfl⟩
theorem EncodingFits.lfsrSave : EncodingFits.Statement .lfsrSave := ⟨Nat.le_of_ble_eq_true rfl, Nat.le_of_ble_eq_true rfl⟩
theorem EncodingFits.dbTick (raw : Byte) : EncodingFits.Statement (.dbTick raw) := ⟨Nat.le_of_ble_eq_true rfl, Nat.le_of_ble_eq_true rfl⟩
theorem EncodingFits.edgeSample : EncodingFits.Statement .edgeSample := ⟨Nat.le_of_ble_eq_true rfl, Nat.le_of_ble_eq_true rfl⟩
theorem EncodingFits.tmrTick : EncodingFits.Statement .tmrTick := ⟨Nat.le_of_ble_eq_true rfl, Nat.le_of_ble_eq_true rfl⟩
theorem EncodingFits.tmrReset : EncodingFits.Statement .tmrReset := ⟨Nat.le_of_ble_eq_true rfl, Nat.le_of_ble_eq_true rfl⟩
theorem EncodingFits.tmrReached (th : Half) : EncodingFits.Statement (.tmrReached th) := ⟨Nat.le_of_ble_eq_true rfl, Nat.le_of_ble_eq_true rfl⟩
theorem EncodingFits.tmrPrepare (r : Bool) (v : Byte) : EncodingFits.Statement (.tmrPrepare r v) := ⟨Nat.le_of_ble_eq_true rfl, Nat.le_of_ble_eq_true rfl⟩
theorem EncodingFits.tmrWaitFull : EncodingFits.Statement .tmrWaitFull := ⟨Nat.le_of_ble_eq_true rfl, Nat.le_of_ble_eq_true rfl⟩
theorem EncodingFits.tmrWaitHalf : EncodingFits.Statement .tmrWaitHalf := ⟨Nat.le_of_ble_eq_true rfl, Nat.le_of_ble_eq_true rfl⟩
theorem EncodingFits.dispSet (l r : Seg) : EncodingFits.Statement (.dispSet l r) := ⟨Nat.le_of_ble_eq_true rfl, Nat.le_of_ble_eq_true rfl⟩
theorem EncodingFits.dispRender (idx : BarIdx) : EncodingFits.Statement (.dispRender idx) := ⟨Nat.le_of_ble_eq_true rfl, Nat.le_of_ble_eq_true rfl⟩
theorem EncodingFits.dispTick : EncodingFits.Statement .dispTick := ⟨Nat.le_of_ble_eq_true rfl, Nat.le_of_ble_eq_true rfl⟩
theorem EncodingFits.dispLatch : EncodingFits.Statement .dispLatch := ⟨Nat.le_of_ble_eq_true rfl, Nat.le_of_ble_eq_true rfl⟩
theorem EncodingFits.dispDigits (n : Byte) : EncodingFits.Statement (.dispDigits n) := ⟨Nat.le_of_ble_eq_true rfl, Nat.le_of_ble_eq_true rfl⟩
theorem EncodingFits.toneOn (k : LB) : EncodingFits.Statement (.toneOn k) := ⟨Nat.le_of_ble_eq_true rfl, Nat.le_of_ble_eq_true rfl⟩
theorem EncodingFits.toneOff : EncodingFits.Statement .toneOff := ⟨Nat.le_of_ble_eq_true rfl, Nat.le_of_ble_eq_true rfl⟩
theorem EncodingFits.octInc : EncodingFits.Statement .octInc := ⟨Nat.le_of_ble_eq_true rfl, Nat.le_of_ble_eq_true rfl⟩
theorem EncodingFits.octDec : EncodingFits.Statement .octDec := ⟨Nat.le_of_ble_eq_true rfl, Nat.le_of_ble_eq_true rfl⟩
theorem EncodingFits.opPwmClk : EncodingFits.Statement .opPwmClk := ⟨Nat.le_of_ble_eq_true rfl, Nat.le_of_ble_eq_true rfl⟩
theorem EncodingFits.keyPress (k : LB) : EncodingFits.Statement (.keyPress k) := ⟨Nat.le_of_ble_eq_true rfl, Nat.le_of_ble_eq_true rfl⟩
theorem EncodingFits.keyClear : EncodingFits.Statement .keyClear := ⟨Nat.le_of_ble_eq_true rfl, Nat.le_of_ble_eq_true rfl⟩
theorem EncodingFits.dispBlank : EncodingFits.Statement .dispBlank := ⟨Nat.le_of_ble_eq_true rfl, Nat.le_of_ble_eq_true rfl⟩

end Sys2Proof.Laws
end

