-- ==== Sys2Proof/Laws/Step.lean ====
section
/-! SUPPORT. What one step can be: the reset step, or the meaning of one decoded instruction. -/
namespace Sys2Proof.Machine

/-- A step that answers a next state is the reset step or runs a decoded instruction in the fetched state. -/
theorem step_next {s t : State} (h : step s = .next t) :
    (∃ u, fetch s = .reset u ∧ t = resetStep Config.params u) ∨
      (∃ f bytes u i, fetch s = .code f bytes u ∧ decode f bytes = .ok i ∧ exec i u = .next t) := by
  unfold step at h
  cases hf : fetch s with
  | reset u =>
    rw [hf] at h
    exact .inl ⟨u, rfl, by cases h; rfl⟩
  | code f bytes u =>
    rw [hf] at h
    simp only [runFetched] at h
    cases hd : decode f bytes with
    | error e => rw [hd] at h; cases h
    | ok i => rw [hd] at h; exact .inr ⟨f, bytes, u, i, rfl, hd, h⟩

/-- What presented ports can select: the reset step, or the bytes of an agent's `EVENT` instruction; of the state only the lines
and the counter of the free values may differ, and a line put back is a line of ports. -/
theorem present_cases (p : InPorts) (s : State) :
    present p s = .reset s ∨
      ∃ a ls n, present p s = .code .event (eventBytes p a) { s with trace := ls, draws := n } ∧
        (ls = s.trace ∨ ∃ q, ls = .ports q :: s.trace) := by
  unfold present
  split
  · exact .inl rfl
  · split
    · exact .inr ⟨.fg, s.trace, s.draws, rfl, .inl rfl⟩
    · rename_i a _
      exact .inr ⟨a, s.trace, s.draws, rfl, .inl rfl⟩
    · exact .inr ⟨_, _, _, rfl, .inr ⟨_, rfl⟩⟩

/-- What a fetch can answer: the reset step, an agent's `EVENT` instruction, or a bare operation's bytes; the state it runs in
differs from the one before only in its lines, its counter of free values and its strobes. -/
theorem fetch_cases (s : State) :
    (∃ ls n, fetch s = .reset { s with trace := ls, draws := n, strobes := .low }) ∨
      (∃ p a ls n, fetch s = .code .event (eventBytes p a) { s with trace := ls, draws := n, strobes := .low }) ∨
      (∃ bytes ls, s.trace = .op bytes :: ls ∧ fetch s = .code .opsel bytes { s with trace := ls, strobes := .low }) := by
  have go : ∀ p u, (∃ ls n, u = { s with trace := ls, draws := n, strobes := .low }) →
      ((∃ ls n, present p u = .reset { s with trace := ls, draws := n, strobes := .low }) ∨
        (∃ q a ls n, present p u = .code .event (eventBytes q a) { s with trace := ls, draws := n, strobes := .low })) := by
    rintro p u ⟨ls, n, rfl⟩
    rcases present_cases p { s with trace := ls, draws := n, strobes := .low } with h | ⟨a, l, m, h, -⟩
    · exact .inl ⟨ls, n, h⟩
    · exact .inr ⟨p, a, l, m, h⟩
  unfold fetch
  split
  · rcases go (Config.env s.draws) _ ⟨s.trace, s.draws + 1, rfl⟩ with h | h
    · exact .inl h
    · exact .inr (.inl h)
  · rename_i p rest _
    rcases go p _ ⟨rest, s.draws, rfl⟩ with h | h
    · exact .inl h
    · exact .inr (.inl h)
  · rename_i bytes rest h
    exact .inr (.inr ⟨bytes, rest, h, rfl⟩)

/-- An agent's bytes decode to its instruction. -/
theorem decode_eventBytes (p : InPorts) (a : Agent) : decode .event (eventBytes p a) = .ok (Safety.agentInstr p a) := by
  cases a <;>
    simp [eventBytes, Safety.agentInstr, decode, decodeEvent, Agent.eventCode, adcOperands, byteOperand, bitOperand, bitByte]
  cases p.adcReady <;> simp

/-- A step that answers a next state: the reset step, an agent's instruction on some ports, or a bare operation; the instruction
runs in a state that differs only in the lines, the counter of free values and the strobes. -/
theorem step_cases {s t : State} (h : step s = .next t) :
    (∃ u, fetch s = .reset u ∧ t = resetStep Config.params u) ∨
      (∃ p a ls n, fetch s = .code .event (eventBytes p a) { s with trace := ls, draws := n, strobes := .low } ∧
        exec (Safety.agentInstr p a) { s with trace := ls, draws := n, strobes := .low } = .next t) ∨
      (∃ bytes i ls, s.trace = .op bytes :: ls ∧ decode .opsel bytes = .ok i ∧
        exec i { s with trace := ls, strobes := .low } = .next t) := by
  rcases step_next h with h | ⟨f, bytes, u, i, hf, hd, he⟩
  · exact .inl h
  · rcases fetch_cases s with ⟨ls, n, h1⟩ | ⟨p, a, ls, n, h1⟩ | ⟨b, ls, h1, h2⟩
    · rw [h1] at hf; cases hf
    · rw [h1] at hf; cases hf
      rw [decode_eventBytes] at hd
      cases hd
      exact .inr (.inl ⟨p, a, ls, n, h1, he⟩)
    · rw [h2] at hf; cases hf
      exact .inr (.inr ⟨_, _, _, h1, hd, he⟩)

end Sys2Proof.Machine
end

