-- ==== Sys2Proof/Tests/Slice0.lean ====
section
/-! SUPPORT. Checks of the model's own work. Expected values come from the encoding tables of 30_encoding and the vectors of
95_test_vectors (its parameter set EX1 stands here only, "test-only"). Then a witness for the hypotheses of each statement. -/
namespace Sys2Proof.Tests

open Sys2Proof.Machine Sys2Proof.Safety

/-! ## Well-formedness -/

theorem test_wf_refuses_every_command_character : ∀ c ∈ commandChars, ¬ (Instr.rxOther c).WellFormed := by decide

theorem test_wf_accepts_other_characters :
    ∀ c ∈ ([0x00, 0x0A, 0x2B, 0x2D, 0x2F, 0x30, 0x35, 0x51, 0x6A, 0x6D, 0xB1, 0xFF] : List Byte), (Instr.rxOther c).WellFormed := by
  decide

/-! ## Decoding words written from the spec's tables -/

/-- Does a decoder's answer hold this instruction? -/
def isInstr (d : Decoded) (i : Instr) : Bool :=
  match d with
  | .ok j => j = i
  | .error _ => false

/-- Does a decoder's answer name this reason? -/
def isError (d : Decoded) (e : DecodeError) : Bool :=
  match d with
  | .ok _ => false
  | .error f => f = e

/-- 30_encoding R56, ASCII code points. -/
theorem test_decode_rxchar :
    ∀ p ∈ ([(0b00110001, .rxDigit1), (0b01110001, .rxQ), (0b00110010, .rxDigit2), (0b01110111, .rxW),
        (0b00110011, .rxDigit3), (0b01100101, .rxE), (0b00110100, .rxDigit4), (0b01110010, .rxR),
        (0b00101100, .rxComma), (0b01101011, .rxK), (0b00101110, .rxPeriod), (0b01101100, .rxL),
        (0b00001010, .rxOther 0x0A), (0b10110001, .rxOther 0xB1), (0b01010001, .rxOther 0x51)] : List (Byte × Instr)),
      isInstr (decode .rxchar [p.1]) p.2 = true := by decide

/-- 30_encoding R66. -/
theorem test_decode_event :
    ∀ p ∈ ([([0b00000, 0b1, 0x80], .fgStep true 0x80), ([0b00000, 0b0, 0x55], .fgStep false 0x55), ([0b00001], .evT1),
        ([0b00010, 0xCF], .evT5 0xCF), ([0b00100], .evXd), ([0b01000, 0x31], .evRx 0x31), ([0b10000], .evPwmClk)] :
          List (List Byte × Instr)),
      isInstr (decode .event p.1) p.2 = true := by decide

/-- 30_encoding R59: `FG_PH` in bits 6:3, `SLOT` in bits 2:0. -/
theorem test_decode_fgph :
    ∀ p ∈ ([([0b0000000], .fgBoot), ([0b0001000], .fgTop), ([0b0010000], .fgInit), ([0b0011000, 0b1, 0x10], .fgSimPrep true 0x10),
        ([0b0100000], .fgSimNext), ([0b0101000], .fgSimOnWait), ([0b0110000], .fgSimOffWait), ([0b0111000], .fgSimDone),
        ([0b1000000], .fgPlySubWait), ([0b1000001], .fgPlySubB1), ([0b1000010], .fgPlySubB2), ([0b1000011], .fgPlySubB3),
        ([0b1000100], .fgPlySubB4), ([0b1001000], .fgPlyPost), ([0b1010000], .fgSucShow), ([0b1011000], .fgSucWait),
        ([0b1100000], .fgFailShow), ([0b1101000], .fgFailWait1), ([0b1110000], .fgFailWait2), ([0b1001100], .fgPlyPost)] :
          List (List Byte × Instr)),
      isInstr (decode .fgph p.1) p.2 = true := by decide

/-- 30_encoding R67. -/
theorem test_decode_opsel_low :
    ∀ p ∈ ([([0b00000], .lfsrAdvance), ([0b00001], .lfsrSeed), ([0b00010], .lfsrSave), ([0b00011, 0xCF], .dbTick 0xCF),
        ([0b00100], .edgeSample), ([0b00101], .tmrTick), ([0b00110], .tmrReset), ([0b00111, 0x34, 0x12], .tmrReached 0x1234),
        ([0b01000, 0b1, 0xFF], .tmrPrepare true 0xFF), ([0b01001], .tmrWaitFull), ([0b01010], .tmrWaitHalf),
        ([0b01011, 0x66, 0x5B], .dispSet 0x66 0x5B)] : List (List Byte × Instr)),
      isInstr (decode .opsel p.1) p.2 = true := by decide

/-- 30_encoding R67. -/
theorem test_decode_opsel_high :
    ∀ p ∈ ([([0b01100, 4], .dispRender 4), ([0b01101], .dispTick), ([0b01110], .dispLatch), ([0b01111, 42], .dispDigits 42),
        ([0b10000, 3], .toneOn 3), ([0b10001], .toneOff), ([0b10010], .octInc), ([0b10011], .octDec), ([0b10100], .opPwmClk),
        ([0b10101, 2], .keyPress 2), ([0b10110], .keyClear)] : List (List Byte × Instr)),
      isInstr (decode .opsel p.1) p.2 = true := by decide

/-- 30_encoding R71: the pseudo-operation's word is that of `DISP.RENDER 4`. -/
theorem test_encode_dispBlank : encodeBytes .dispBlank = [0b01100, 4] := rfl

/-- 30_encoding R69 and R60: what is no instruction, by name. -/
theorem test_decode_rejects :
    isError (decode .event [0b00011]) .severalStrobes = true ∧ isError (decode .event [0b11111]) .severalStrobes = true ∧
      isError (decode .event [0b100000]) .bitsAboveFormat = true ∧
      isError (decode .fgph [0b1111000]) .reservedPhase = true ∧ isError (decode .fgph [0b1111111]) .reservedPhase = true ∧
      isError (decode .fgph [0b1000101]) .reservedSlot = true ∧ isError (decode .fgph [0b1000111]) .reservedSlot = true ∧
      isError (decode .fgph [0x80]) .bitsAboveFormat = true ∧
      isError (decode .opsel [23]) .reservedOperation = true ∧ isError (decode .opsel [31]) .reservedOperation = true ∧
      isError (decode .opsel [32]) .bitsAboveFormat = true ∧
      isError (decode .opsel [16, 4]) .operandTooWide = true ∧ isError (decode .opsel [12, 8]) .operandTooWide = true ∧
      isError (decode .opsel [3]) .missingOperand = true ∧ isError (decode .opsel []) .noCode = true := by decide

/-- 95_test_vectors program A and 3.5: stimulus words. -/
theorem test_stim_words :
    isInstr (decodeStim 0x0000) (.fgStep false 0) = true ∧ isInstr (decodeStim 0x0100) (.fgStep true 0) = true ∧
      isInstr (decodeStim 0x0200) .evT1 = true ∧ isInstr (decodeStim 0x04CF) (.evT5 0xCF) = true ∧
      isInstr (decodeStim 0x0800) .evXd = true ∧ isInstr (decodeStim 0x102E) (.evRx 0x2E) = true ∧
      isInstr (decodeStim 0x2000) .evPwmClk = true := by decide

/-- Table words: one of each format (log 9). -/
theorem test_table_words :
    decodeTableWord 8 0x71 = some .rxQ ∧ decodeTableWord 8 0x02 = some (.evT5 0) ∧ decodeTableWord 5 0x10 = some .evPwmClk ∧
      decodeTableWord 7 0x18 = some (.fgSimPrep false 0) ∧ decodeTableWord 8 0x40 = some .fgPlySubWait ∧
      decodeTableWord 5 0x0D = some .dispTick ∧ decodeTableWord 8 0x16 = some .keyClear ∧
      decodeTableWord 8 0xFF = some (.rxOther 0xFF) := by decide

/-! ## The parameter set EX1 and a state in the middle of a game -/

/-- 95_test_vectors 0.1. -/
def ex1 : Params where
  lfsrMask := 0xE2023CAB
  lfsrSeed := 0x12345678
  debounceN := .two
  btn := {}
  tonePer := fun i => if i = 0 then 40000 else if i = 1 then 47565 else if i = 2 then 30003 else 60000
  segDigit := fun d => ([0x3F, 0x06, 0x5B, 0x4F, 0x66, 0x6D, 0x7D, 0x07, 0x7F, 0x6F, 0x00] : List Seg).getD d.val 0
  segBarL := 0x30
  segBarR := 0x06
  patSuccessL := 0x7F
  patSuccessR := 0x7F
  patFailL := 0x40
  patFailR := 0x40

/-- A round in PLAYER: three steps long, one press judged, slot WAIT, delay 250. -/
def demo : State where
  seq := ⟨0x12345678, 0x12345678, 0, false⟩
  game :=
    { seqLen := 3, inputCnt := 0, playIdx := 3, stage := .player, slot := .wait, fgPh := .plySub,
      incorrect := false, consumed := false, released := false, srcKey := false }
  deb := ⟨0xFF, 0, 0⟩
  edge := ⟨0xFF, 0xFF, 0, 0, 0⟩
  time := ⟨125, 250, true⟩
  disp := ⟨0xE6, 0x5B⟩
  mux := ⟨false, 0, false⟩
  panel := ⟨0, 0, 0⟩
  oct := .zero
  tone := ⟨5000, 0⟩
  wave := ⟨0, false⟩
  key := ⟨false, 0⟩
  ie := true
  strobes := .low
  ret := false
  wait := none
  trace := []
  draws := 0

/-- `demo` in another phase. -/
def demoAt (stage : Stage) (ph : Phase) (slot : Slot) : State :=
  { demo with game := { demo.game with stage := stage, fgPh := ph, slot := slot } }

/-- What an answer's next state shows. -/
def shows {α : Type} (a : Answer) (f : State → α) : Option α :=
  match a with
  | .next t => some (f t)
  | .fault _ => none
  | .refused _ => none

/-! ## Vectors of 95_test_vectors, one step each -/

/-- 2.1. -/
theorem test_lfsr_steps :
    ([0x00000000, 0x00000001, 0x00000002, 0x00000003, 0x80000000, 0xFFFFFFFF, 0xE2023CAB, 0xC4047957, 0x02468ACF] : List Word).map
        (lfsrNext ex1.lfsrMask) =
      [0x00000000, 0xE2023CAB, 0x00000001, 0xE2023CAA, 0x40000000, 0x9DFDC354, 0x930322FE, 0x80000000, 0xE32179CC] := by decide

/-- 2.1: `STEP` 2 and `RESULT` 1 after the corner state 3. -/
theorem test_lfsr_advance :
    ((lfsrAdvance ex1 (demo.setSeq ⟨3, 7, 0, false⟩)).seq) = ⟨0xE2023CAA, 7, 2, true⟩ := by decide

theorem test_lfsr_seed : shows (exec .lfsrSeed (demo.setSeq ⟨9, 0x12345678, 1, true⟩)) State.seq = some ⟨0x12345678, 0x12345678, 1, true⟩ := by
  decide

theorem test_lfsr_save : shows (exec .lfsrSave (demo.setSeq ⟨0xE32179CC, 5, 1, true⟩)) State.seq = some ⟨0xE32179CC, 0xE32179CC, 1, true⟩ := by
  decide

/-- 2.2, the whole-byte example. -/
theorem test_dbTick_byte : shows (exec (.dbTick 0xCF) (demo.setDeb ⟨0xFF, 0x10, 0⟩)) State.deb = some ⟨0xEF, 0x20, 0⟩ := by decide

/-- 2.2, the window of 3: counts 1, 2, then the flip. -/
theorem test_debounce_three :
    debounce .three 0xFE ⟨0xFF, 0, 0⟩ = ⟨0xFF, 1, 0⟩ ∧ debounce .three 0xFE ⟨0xFF, 1, 0⟩ = ⟨0xFF, 0, 1⟩ ∧
      debounce .three 0xFE ⟨0xFF, 0, 1⟩ = ⟨0xFE, 0, 0⟩ ∧ debounce .three 0xFF ⟨0xFF, 0, 1⟩ = ⟨0xFF, 0, 0⟩ := by decide

/-- 2.3. -/
theorem test_edges :
    edgesOf 0xEF 0xDF = ⟨0xEF, 0xDF, 0x30, 0x20, 0x10⟩ ∧ edgesOf 0xA5 0x5A = ⟨0xA5, 0x5A, 0xFF, 0xA5, 0x5A⟩ := by decide

theorem test_edgeSample :
    shows (exec .edgeSample { demo with deb := ⟨0xEF, 0, 0⟩, edge := ⟨0x12, 0xFF, 0, 0, 0⟩ }) State.edge = some ⟨0xFF, 0xEF, 0x10, 0x10, 0⟩ := by
  decide

/-- 2.4, entries of the table. -/
theorem test_delayOf :
    ([0, 1, 15, 16, 85, 100, 128, 200, 254, 255] : List Byte).map delayOf =
      [250, 257, 352, 359, 828, 930, 1120, 1610, 1977, 1984] := by decide

theorem test_tmrTick_wraps : shows (exec .tmrTick (demo.setTime ⟨65535, 250, true⟩)) State.time = some ⟨0, 250, true⟩ := by decide

theorem test_tmrReset : shows (exec .tmrReset (demo.setTime ⟨40000, 250, true⟩)) State.time = some ⟨0, 250, true⟩ := by decide

theorem test_tmrReached :
    shows (exec (.tmrReached 126) demo) State.ret = some false ∧ shows (exec (.tmrReached 125) demo) State.ret = some true := by decide

theorem test_tmrPrepare :
    shows (exec (.tmrPrepare false 0x55) (demo.setTime ⟨3, 999, true⟩)) (fun t => (t.time, t.ret)) = some (⟨3, 999, false⟩, false) ∧
      shows (exec (.tmrPrepare true 0xFF) (demo.setTime ⟨3, 999, false⟩)) (fun t => (t.time, t.ret)) = some (⟨3, 1984, true⟩, true) := by
  decide

/-- 2.5. -/
theorem test_display_bytes :
    (dispRender ex1 0 demo).disp = ⟨0xB0, 0x00⟩ ∧ (dispRender ex1 1 demo).disp = ⟨0x86, 0x00⟩ ∧
      (dispRender ex1 2 demo).disp = ⟨0x80, 0x30⟩ ∧ (dispRender ex1 3 demo).disp = ⟨0x80, 0x06⟩ ∧
      (dispRender ex1 7 demo).disp = ⟨0x80, 0x00⟩ ∧ (dispBlank ex1 demo).disp = ⟨0x80, 0x00⟩ ∧
      (dispSet 0x66 0x5B demo).disp = ⟨0xE6, 0x5B⟩ := by decide

/-- 2.5. -/
theorem test_display_digits :
    shows (dispDigits ex1 0 demo) State.disp = some ⟨0x80, 0x3F⟩ ∧ shows (dispDigits ex1 42 demo) State.disp = some ⟨0xE6, 0x5B⟩ ∧
      shows (dispDigits ex1 99 demo) State.disp = some ⟨0xEF, 0x6F⟩ ∧ shows (dispDigits ex1 105 demo) State.disp = some ⟨0x80, 0x6D⟩ := by decide

/-- 2.5. -/
theorem test_display_digits_fault :
    exec (.dispDigits 110) demo = .fault .digitOutOfTable ∧ exec (.dispDigits 255) demo = .fault .digitOutOfTable := ⟨rfl, rfl⟩

/-- 2.5, the handler side. -/
theorem test_dispTick :
    shows (exec .dispTick demo) State.mux = some ⟨true, 0xE6, true⟩ ∧
      shows (exec .dispTick (demo.setMux ⟨true, 0xE6, false⟩)) State.mux = some ⟨false, 0x5B, true⟩ := by decide

theorem test_dispLatch :
    shows (exec .dispLatch { demo with mux := ⟨true, 0xE6, true⟩, panel := ⟨1, 2, 3⟩ }) State.panel = some ⟨0xE6, 0x66, 3⟩ ∧
      shows (exec .dispLatch { demo with mux := ⟨false, 0x5B, true⟩, panel := ⟨1, 2, 3⟩ }) State.panel = some ⟨0x5B, 2, 0x5B⟩ := by decide

/-- 2.6. -/
theorem test_toneOn :
    (toneOn ex1 1 { demo with oct := .neg3 }).tone = ⟨47565, 23782⟩ ∧ (toneOn ex1 2 demo).tone = ⟨3750, 1875⟩ ∧
      (toneOn ex1 3 { demo with oct := .pos3 }).tone = ⟨937, 468⟩ := by decide

theorem test_toneOff : shows (exec .toneOff (demo.setTone ⟨743, 371⟩)) State.tone = some ⟨743, 0⟩ := by decide

theorem test_octaves :
    shows (exec .octInc { demo with oct := .neg1 }) State.oct = some .zero ∧ shows (exec .octInc { demo with oct := .pos3 }) State.oct = some .pos3 ∧
      shows (exec .octDec { demo with oct := .zero }) State.oct = some .neg1 ∧ shows (exec .octDec { demo with oct := .neg3 }) State.oct = some .neg3 := by
  decide

/-- 2.7. -/
theorem test_pwm :
    shows (exec .evPwmClk { demo with tone := ⟨3, 1⟩, wave := ⟨3, false⟩ }) State.wave = some ⟨0, true⟩ ∧
      shows (exec .opPwmClk { demo with tone := ⟨3, 1⟩, wave := ⟨0, true⟩ }) State.wave = some ⟨1, false⟩ ∧
      shows (exec .opPwmClk { demo with tone := ⟨0, 0⟩, wave := ⟨7, true⟩ }) State.wave = some ⟨0, false⟩ := by decide

/-- 2.8, in PLAYER. -/
theorem test_rx_in_player :
    ∀ p ∈ ([(0x31, ⟨true, 0⟩), (0x71, ⟨true, 0⟩), (0x32, ⟨true, 1⟩), (0x77, ⟨true, 1⟩), (0x33, ⟨true, 2⟩), (0x65, ⟨true, 2⟩),
        (0x34, ⟨true, 3⟩), (0x72, ⟨true, 3⟩), (0x30, ⟨false, 1⟩), (0x2C, ⟨true, 1⟩)] : List (Byte × Key)),
      shows (exec (.evRx p.1) (demo.setKey ⟨true, 1⟩)) State.key = some p.2 := by decide

/-- 2.8, outside PLAYER and with events disabled. -/
theorem test_rx_elsewhere :
    shows (exec (.evRx 0x31) (demoAt .simon .top .wait)) State.key = some ⟨false, 0⟩ ∧
      shows (exec (.evRx 0x2E) (demoAt .simon .top .wait)) State.oct = some .pos1 ∧
      shows (exec (.evRx 0x31) { demo with ie := false }) State.key = some ⟨false, 0⟩ := by decide

/-- 2.9 GV1: two falling bits, the lower button wins. -/
theorem test_gv1 :
    let t := microPlyWait ex1 { demo with edge := edgesOf 0xFF 0x5F }
    t.game.slot = .b2 ∧ t.game.inputCnt = 1 ∧ t.game.srcKey = false ∧ t.game.fgPh = .plyPost ∧ t.seq.lfsrState = 0x091A2B3C := by decide

/-- 2.9 GV2, GV3: an edge and a key. -/
theorem test_gv2_gv3 :
    (let t := microPlyWait ex1 { demo with edge := edgesOf 0xFF 0xEF, key := ⟨true, 2⟩ }
     t.game.slot = .b1 ∧ t.game.srcKey = false ∧ t.key = ⟨true, 2⟩) ∧
      (let t := microPlyWait ex1 { demo with edge := edgesOf 0xFF 0xDF, key := ⟨true, 1⟩ }
       t.game.slot = .b2 ∧ t.game.srcKey = false ∧ t.key = ⟨false, 1⟩) := by decide

/-- 2.9 GV9: the release ends a press held past the half delay; before it, not. -/
theorem test_gv9 :
    (let t := microPlyHeld ex1 0 (demoAt .player .plySub .b1)
     t.game.slot = .b1 ∧ t.game.consumed = false ∧ t.tone = ⟨5000, 2500⟩ ∧ t.disp.dispL = 0xB0) ∧
      (let t := microPlyHeld ex1 0 { demoAt .player .plySub .b1 with edge := edgesOf 0xEF 0xFF }
       t.game.slot = .wait ∧ t.game.consumed = true ∧ t.tone = ⟨5000, 0⟩ ∧ t.disp.dispL = 0x80) := by decide

/-- 3.1: `FG.SIM_NEXT` and the poll of `FG.SIM_ON_WAIT` at 124 and 125. -/
theorem test_program_a :
    (let t := microSimNext ex1 { demoAt .simon .simNext .wait with game := { (demoAt .simon .simNext .wait).game with playIdx := 0 } }
     t.game.fgPh = .simOnWait ∧ t.tone = ⟨5000, 2500⟩ ∧ t.disp = ⟨0xB0, 0⟩ ∧ t.time.elapsed = 0 ∧ t.seq.lfsrState = 0x091A2B3C) ∧
      (microSimOnWait ex1 ((demoAt .simon .simOnWait .wait).setTime ⟨124, 250, true⟩)).game.fgPh = .simOnWait ∧
      (microSimOnWait ex1 (demoAt .simon .simOnWait .wait)).game.fgPh = .simOffWait := by decide

/-- 2.9 GV13, and 45_gameplay R116: a wrong last input fails. -/
theorem test_rounds :
    (microSucWait ex1 { demo with game := { demo.game with fgPh := .sucWait, stage := .success, seqLen := 255 }, time := ⟨250, 250, true⟩ }).game.seqLen
        = 0 ∧
      (microPlyPost { demo with game := { demo.game with consumed := true, incorrect := true, inputCnt := 3, fgPh := .plyPost } }).game.stage
        = .fail ∧
      (microPlyPost { demo with game := { demo.game with consumed := true, inputCnt := 3, fgPh := .plyPost } }).game.stage = .success := by
  decide

/-- P2's last step: one more advance, saved. -/
theorem test_failWait2 :
    let t := microFailWait2 ex1 { demoAt .fail .failWait2 .wait with seq := ⟨0x02468ACF, 0x12345678, 3, false⟩, time := ⟨250, 250, true⟩ }
    t.seq = ⟨0xE32179CC, 0xE32179CC, 0, true⟩ ∧ t.game.stage = .init ∧ t.game.fgPh = .top := by decide

/-- A placed word is the next step's instruction: an event, a phase, an operation, a character. -/
theorem test_withFetchWord :
    step (State.reset.withFetchWord 8 0x10) = exec .evPwmClk State.reset ∧
      step (State.reset.withFetchWord 8 0x70) =
        exec .fgFailWait2 (State.reset.setGame { State.reset.game with fgPh := .failWait2 }) ∧
      step (State.reset.withFetchWord 8 0x12) = exec .octInc State.reset ∧
      step (State.reset.withFetchWord 8 0x2E) = exec .rxPeriod (State.reset.setIe true) := ⟨rfl, rfl, rfl, rfl⟩

/-! ## Witnesses: concrete states and operands that meet each statement's hypotheses, clause by clause -/

theorem witness_EventVectorsDecode :
    (0b00011 : BitVec 5) ∉ ([0b00000, 0b00001, 0b00010, 0b00100, 0b01000, 0b10000] : List (BitVec 5)) ∧
      isError (decode .event [(0b00011 : BitVec 5).setWidth 8]) .severalStrobes = true := by decide

theorem witness_OperationIndicesDecode : 23 ≤ (23 : BitVec 5).toNat ∧ 23 ≤ (31 : BitVec 5).toNat := by decide

/-- The lines of a state replaced. -/
def withLines (ls : List Line) (s : State) : State := s.setTrace ls

theorem witness_StimulusWordsDecodeAndRun :
    64 ≤ (64 : Byte).toNat ∧ isError (decode .stim [0xFF, 64]) .bitsAboveFormat = true ∧
      encodeStim (.evRx 0x2E) = some 0x102E ∧ (withLines [.ports (portsOfStim 0x102E)] demo).trace = .ports (portsOfStim 0x102E) :: [] := by
  decide

theorem witness_DecodeOfEncodeIsTheInstruction :
    (Instr.rxOther 0x30).WellFormed ∧ (Instr.tmrReached 0x1234).WellFormed ∧ Instr.dispBlank.WellFormed := by decide

theorem witness_StepRunsTheDecodedInstruction :
    (∃ u, fetch (withLines [.ports { tick5 := true, btnRaw := 0xCF }] demo) = .code .event [2, 0xCF] u) ∧
      decode .event [2, 0xCF] = .ok (.evT5 0xCF) ∧
      (∃ u, fetch (withLines [.op [16, 1]] demo) = .code .opsel [16, 1] u) ∧ decode .opsel [16, 1] = .ok (.toneOn 1) ∧
      decode .opsel [23] = .error .reservedOperation := ⟨⟨_, rfl⟩, rfl, ⟨_, rfl⟩, rfl, rfl⟩

theorem witness_StepTakesThePresentedAgent :
    (withLines [.ports { adcReady := true }] demo).trace = .ports { adcReady := true } :: [] ∧
      ({ adcReady := true } : InPorts).rst = false ∧ ({ adcReady := true } : InPorts).agents = [] ∧
      ({ xferDone := true } : InPorts).agents = [.xd] ∧ ({ pwmClk := true } : InPorts).agents = [.pc] := by decide

/-- A `T5` presented with the `XD` it must wait for, and two other strobes. -/
theorem witness_EventsTogetherAreTakenOneAtATime :
    (withLines [.ports { tick5 := true, xferDone := true }] (demo.setMux ⟨true, 0xE6, true⟩)).trace
        = .ports { tick5 := true, xferDone := true } :: [] ∧
      2 ≤ ({ tick5 := true, xferDone := true } : InPorts).agents.length ∧
      2 ≤ ({ tick1 := true, rxValid := true, pwmClk := true } : InPorts).agents.length := by decide

theorem witness_ResetStepWritesTheResetTable :
    (withLines [.ports { rst := true, tick1 := true }] demo).trace = .ports { rst := true, tick1 := true } :: [] ∧
      ({ rst := true, tick1 := true } : InPorts).rst = true ∧ demo.ie = true := by decide

theorem witness_EventsAreLostWhileDisabled :
    isHandler (.evT5 0) = true ∧ isHandler .rxQ = true ∧ isHandler (.rxOther 0x30) = true ∧ (demo.setIe false).ie = false := by decide

theorem witness_FiveMillisecondTickEvent :
    (demo.ie = true ∧ demo.mux.xferBusy = false) ∧
      ((demo.setMux ⟨true, 0xE6, true⟩).ie = true ∧ (demo.setMux ⟨true, 0xE6, true⟩).mux.xferBusy = true) ∧
      (demo.setIe false).ie = false := by decide

theorem witness_ButtonCharactersPressTheirKey :
    (Instr.rxR, (3 : LB)) ∈
        [(Instr.rxDigit1, (0 : LB)), (.rxQ, 0), (.rxDigit2, 1), (.rxW, 1), (.rxDigit3, 2), (.rxE, 2), (.rxDigit4, 3), (.rxR, 3)] ∧
      shows (exec .rxR demo) State.key = some ⟨true, 3⟩ ∧ shows (exec .rxR (demoAt .fail .top .wait)) State.key = some ⟨false, 0⟩ := by decide

theorem witness_OctaveCharactersMoveTheOctave :
    demo.ie = true ∧ Instr.rxK ∈ [Instr.rxComma, .rxK] ∧ Instr.rxL ∈ [Instr.rxPeriod, .rxL] := by decide

theorem witness_OtherCharactersClearTheKey :
    (demo.setKey ⟨true, 2⟩).ie = true ∧ shows (exec (.rxOther 0x0A) (demo.setKey ⟨true, 2⟩)) State.key = some ⟨false, 2⟩ := by decide

theorem witness_ReseededGeneratorRepeats : demo.seq.reInit = (demo.setSeq ⟨7, 0x12345678, 3, true⟩).seq.reInit := rfl

/-- One byte with an agreeing bit (7), a first differing bit (5) and a second differing bit (4). -/
theorem witness_DebounceTickTreatsEveryBit :
    (7 < 8 ∧ (0xCF : Byte).getLsbD 7 = (0xFF : Byte).getLsbD 7) ∧
      (5 < 8 ∧ (0xCF : Byte).getLsbD 5 ≠ (0xFF : Byte).getLsbD 5 ∧ ((⟨0xFF, 0x10, 0⟩ : Deb).bitAt 5).cnt + 1 ≠ Config.debounceN.count) ∧
      (4 < 8 ∧ (0xCF : Byte).getLsbD 4 ≠ (0xFF : Byte).getLsbD 4 ∧ ((⟨0xFF, 0x10, 0⟩ : Deb).bitAt 4).cnt + 1 = Config.debounceN.count) := by
  decide

theorem witness_BitPlaneFormEqualsTheBitRule :
    (∀ b, b < 8 → ((⟨0xFF, 0x10, 0⟩ : Deb).bitAt b).cnt < 2) ∧ (∀ b, b < 8 → ((⟨0xFF, 0x10, 0x20⟩ : Deb).bitAt b).cnt < 3) := by decide

theorem witness_GlitchNeverFlipsAndChangeAlwaysDoes :
    (0 < 8 ∧ (demo.deb.bitAt 0).cnt = 0 ∧ (0xFE : Byte).getLsbD 0 ≠ demo.deb.pbDeb.getLsbD 0) ∧
      (7 < 8 ∧ (demo.deb.bitAt 7).cnt = 0 ∧ (0x7F : Byte).getLsbD 7 ≠ demo.deb.pbDeb.getLsbD 7) := by decide

theorem witness_WaitsResetThenPoll :
    (demo.setWait (some .full)).wait = some .full ∧ (demo.setWait (some .half)).wait = some .half ∧
      shows (exec (.fgStep false 0) (demo.setWait (some .full))) State.wait = some (some .full) ∧
      shows (exec (.fgStep false 0) (demo.setWait (some .half))) State.wait = some none := by decide

/-- The delay of `demo` is 250: 250 ticks end a full wait, 125 a half one. -/
theorem witness_WaitEndsExactlyAtItsThreshold : demo.ie = true ∧ 250 < 65536 ∧ demo.time.playbackDelay.toNat ≤ 250 ∧ 65535 < 65536 := by decide

theorem witness_DisplayTickShipsOneByte :
    demo.mux.xferBusy = false ∧ (demo.setMux ⟨true, 0xE6, true⟩).mux.xferBusy = true := by decide

theorem witness_LatchShowsTheByteOnItsDigit :
    (demo.setMux ⟨true, 0x80, true⟩).mux.txByte.getLsbD 7 = true ∧ (demo.setMux ⟨true, 0x7F, true⟩).mux.txByte.getLsbD 7 = false := by decide

theorem witness_DigitsShowTheScore :
    (109 : Byte).toNat < 110 ∧ 110 ≤ (110 : Byte).toNat ∧ (0 : Byte).toNat < 110 ∧ 110 ≤ (255 : Byte).toNat := by decide

theorem witness_TwoTickPairsRefreshBothDigits :
    demo.ie = true ∧ demo.mux.xferBusy = false ∧ demo.disp.dispL.getLsbD 7 = true ∧ demo.disp.dispR.getLsbD 7 = false := by decide

theorem witness_OctaveStepsSaturate : demo.oct.value = 0 := by decide

theorem witness_PwmPeriodIsPerPlusOne :
    (demo.setWave ⟨5000, false⟩).wave.pwmCnt.toNat ≤ (demo.setWave ⟨5000, false⟩).tone.pwmPer.toNat := by decide

theorem witness_SimonNextPlaysOneStep :
    (demoAt .simon .simNext .wait).game.playIdx = (demoAt .simon .simNext .wait).game.seqLen ∧
      ({ demo.game with playIdx := 2 }).playIdx ≠ ({ demo.game with playIdx := 2 }).seqLen := by decide

theorem witness_SimonHalfWaits :
    (demo.setTime ⟨124, 250, true⟩).time.elapsed.toNat < ((demo.setTime ⟨124, 250, true⟩).time.playbackDelay >>> 1).toNat ∧
      (demo.time.playbackDelay >>> 1).toNat ≤ demo.time.elapsed.toNat := by decide

/-- No edge and no key; a pending key for button 2 alone; an edge on every button. -/
theorem witness_WaitScanRecognisesTheFirstPress :
    ((∀ i, False ↔ demo.edge.falling.getLsbD (Config.btn.bit i).toNat = true) ∧ (∀ i : LB, False ↔ demo.key.keyp = true ∧ demo.key.keyb = i)) ∧
      ((∀ i : LB, i = 2 ↔ (demo.setKey ⟨true, 2⟩).key.keyp = true ∧ (demo.setKey ⟨true, 2⟩).key.keyb = i) ∧
        (∀ j : LB, j.toNat < (2 : LB).toNat → ¬ False ∧ ¬ j = 2)) ∧
      (∀ i, True ↔ (demo.setEdge ⟨0xFF, 0, 0xFF, 0xFF, 0⟩).edge.falling.getLsbD (Config.btn.bit i).toNat = true) := by
  have none : ∀ b : BitVec 3, False ↔ (0x00 : Byte).getLsbD b.toNat = true := by decide
  have all : ∀ b : BitVec 3, True ↔ (0xFF : Byte).getLsbD b.toNat = true := by decide
  exact ⟨⟨fun i => none _, by decide⟩, ⟨by decide, by decide⟩, fun i => all _⟩

/-- A right press released after the half delay; a wrong press; a press still held. -/
theorem witness_HeldButtonIsJudgedAndEnds :
    (let s : State := { demo with game := { demo.game with slot := .b1, released := true } }
     (Instr.fgPlySubB1, (0 : LB)) ∈ [(Instr.fgPlySubB1, (0 : LB)), (.fgPlySubB2, 1), (.fgPlySubB3, 2), (.fgPlySubB4, 3)] ∧
      (false = true ↔ s.game.incorrect = true ∨ (0 : LB) ≠ s.seq.stepVal) ∧
      (true = true ↔ s.game.released = true ∨ s.edge.rising.getLsbD (Config.btn.bit 0).toNat = true ∨ s.game.srcKey = true) ∧
      (s.time.playbackDelay >>> 1).toNat ≤ s.time.elapsed.toNat) ∧
      (let s : State := demoAt .player .plySub .b4
       (true = true ↔ s.game.incorrect = true ∨ (3 : LB) ≠ s.seq.stepVal) ∧
        (false = true ↔ s.game.released = true ∨ s.edge.rising.getLsbD (Config.btn.bit 3).toNat = true ∨ s.game.srcKey = true)) ∧
      (demo.setTime ⟨124, 250, true⟩).time.elapsed.toNat < ((demo.setTime ⟨124, 250, true⟩).time.playbackDelay >>> 1).toNat := by
  have none : ∀ b : BitVec 3, ¬ (0x00 : Byte).getLsbD b.toNat = true := by decide
  refine ⟨⟨by decide, by decide, ⟨fun _ => .inl rfl, fun _ => rfl⟩, by decide⟩, ⟨by decide, ⟨nofun, ?_⟩⟩, by decide⟩
  rintro (h | h | h)
  · exact h
  · exact absurd h (none _)
  · exact h

theorem witness_SuccessShowsAndLengthens :
    (demo.setTime ⟨249, 250, true⟩).time.elapsed.toNat < (demo.setTime ⟨249, 250, true⟩).time.playbackDelay.toNat ∧
      (demo.setTime ⟨250, 250, true⟩).time.playbackDelay.toNat ≤ (demo.setTime ⟨250, 250, true⟩).time.elapsed.toNat := by decide

theorem witness_FailShowsScoresAndSaves :
    (demo.setTime ⟨249, 250, true⟩).time.elapsed.toNat < (demo.setTime ⟨249, 250, true⟩).time.playbackDelay.toNat ∧
      (demo.setTime ⟨250, 250, true⟩).time.playbackDelay.toNat ≤ (demo.setTime ⟨250, 250, true⟩).time.elapsed.toNat ∧
      (demo.setGame { demo.game with seqLen := 109 }).game.seqLen.toNat < 110 ∧
      110 ≤ (demo.setGame { demo.game with seqLen := 110 }).game.seqLen.toNat := by decide

theorem witness_ForegroundStepIsTheSelectedMicroStep :
    demo.wait = none ∧ (demo.game.fgPh = .failWait1 → demo.game.seqLen.toNat < 110) ∧
      (demoAt .fail .failWait1 .wait).wait = none ∧ (demoAt .fail .failWait1 .wait).game.seqLen.toNat < 110 := by decide

theorem witness_EveryAgentWritesOnlyItsCells :
    (∃ t, exec .evT1 demo = .next t) ∧ (∃ t, exec (.evT5 0xCF) demo = .next t) ∧ (∃ t, exec .evXd demo = .next t) ∧
      (formatOf .rxComma = .rxchar ∧ ∃ t, exec .rxComma demo = .next t) ∧ (∃ t, exec (.evRx 0x31) demo = .next t) ∧
      (demo.game.fgPh ≠ .boot ∧ ∃ t, exec (.fgStep false 0) demo = .next t) ∧ ∃ t, exec .evPwmClk demo = .next t :=
  ⟨⟨_, rfl⟩, ⟨_, rfl⟩, ⟨_, rfl⟩, ⟨rfl, _, rfl⟩, ⟨_, rfl⟩, ⟨by decide, _, rfl⟩, ⟨_, rfl⟩⟩

theorem witness_HandlersCommute :
    (Instr.evT5 0xCF, Instr.evRx 0x31) ∈
      [(Instr.evT1, Instr.evT5 0xCF), (.evT1, .evXd), (.evT1, .evRx 0x31), (.evT5 0xCF, .evRx 0x31), (.evXd, .evRx 0x31)] := by decide

theorem witness_InstructionsFaultExactlyInTwoConditions :
    exec (.evT5 0) (demo.setMux ⟨true, 0xE6, true⟩) = .fault .transferOverrun ∧
      exec (.fgStep false 0)
          { demo with game := { demo.game with fgPh := .failWait1, stage := .fail, seqLen := 110 }, time := ⟨250, 250, true⟩ }
        = .fault .digitOutOfTable := ⟨rfl, rfl⟩

theorem witness_PhaseGraphIsFollowed :
    demo.wait = none ∧ ∃ t, exec (.fgStep false 0) demo = .next t ∧ t.game.fgPh = .plyPost := ⟨rfl, _, rfl, rfl⟩

/-- A millisecond tick in the middle of PLAYER. -/
def demoTick : State := withLines [.ports { tick1 := true }] demo

theorem witness_units : UnitInv demoTick where
  leftMark := rfl
  rightMark := rfl
  counts := by decide
  changed := by decide
  falling := by decide
  rising := by decide
  delay := .inr ⟨by decide, by decide⟩
  ready := fun _ => ⟨by decide, by decide⟩
  duty := .inl rfl

theorem witness_foreground : ForegroundInv demoTick where
  stageOfPhase := by intro g h; cases h; rfl
  enabled := by decide
  idle := by decide
  consumed := by decide
  incorrect := by decide
  nextIdx := by decide
  waitIdx := by decide
  doneIdx := by decide
  delayLive := fun _ => ⟨by decide, by decide⟩

theorem witness_StageGraphIsFollowed :
    ForegroundInv demoTick ∧ (∃ t, step demoTick = .next t) ∧ ∀ u, fetch demoTick ≠ .reset u :=
  ⟨witness_foreground, ⟨_, rfl⟩, fun _ => nofun⟩

theorem witness_EveryStepKeepsTheBlockInvariant : BlockInv demoTick ∧ ∃ t, step demoTick = .next t :=
  ⟨⟨witness_units, witness_foreground⟩, _, rfl⟩

/-- `demoTick` stands before its round's first press. -/
theorem witness_EveryStepKeepsTheReplayInvariant :
    BlockInv demoTick ∧ ReplayInv demoTick ∧ portsOnly demoTick ∧ ∃ t, step demoTick = .next t := by
  refine ⟨⟨witness_units, witness_foreground⟩, ⟨by decide, by decide, fun _ => ⟨0, rfl, rfl, by decide⟩⟩, ?_, _, rfl⟩
  intro bytes h
  cases List.mem_singleton.1 h

end Sys2Proof.Tests
end

section
/-! PROOFS. The decoder's operand readers, seen from their answer: what an answered instruction looks like. -/
namespace Sys2Proof

variable {ops : List Byte} {i : Instr}

theorem adcOperands_ok {mk : Bool → Byte → Instr} (h : adcOperands mk ops = .ok i) : ∃ r v, i = mk r v := by
  unfold adcOperands at h
  split at h
  · split at h
    · exact ⟨_, _, by cases h; rfl⟩
    · cases h
  · cases h

theorem byteOperand_ok {mk : Byte → Instr} (h : byteOperand mk ops = .ok i) : ∃ b, i = mk b := by
  unfold byteOperand at h
  split at h
  · exact ⟨_, by cases h; rfl⟩
  · cases h

theorem lbOperand_ok {mk : LB → Instr} (h : lbOperand mk ops = .ok i) : ∃ k, i = mk k := by
  unfold lbOperand at h
  split at h
  · split at h
    · exact ⟨_, by cases h; rfl⟩
    · cases h
  · cases h

theorem barOperand_ok {mk : BarIdx → Instr} (h : barOperand mk ops = .ok i) : ∃ idx, i = mk idx := by
  unfold barOperand at h
  split at h
  · split at h
    · exact ⟨_, by cases h; rfl⟩
    · cases h
  · cases h

theorem segOperands_ok {mk : Seg → Seg → Instr} (h : segOperands mk ops = .ok i) : ∃ l r, i = mk l r := by
  unfold segOperands at h
  split at h
  · exact ⟨_, _, by cases h; rfl⟩
  · cases h

theorem halfOperand_ok {mk : Half → Instr} (h : halfOperand mk ops = .ok i) : ∃ th, i = mk th := by
  unfold halfOperand at h
  split at h
  · exact ⟨_, by cases h; rfl⟩
  · cases h

/-- The operation decoder answers operations only. -/
theorem formatOf_of_decodeOpsel {code : Byte} (h : decodeOpsel code ops = .ok i) : formatOf i = .opsel := by
  unfold decodeOpsel at h
  split at h
  case h_4 | h_16 => obtain ⟨b, rfl⟩ := byteOperand_ok h; rfl
  case h_8 => obtain ⟨th, rfl⟩ := halfOperand_ok h; rfl
  case h_9 => obtain ⟨r, v, rfl⟩ := adcOperands_ok h; rfl
  case h_12 => obtain ⟨l, r, rfl⟩ := segOperands_ok h; rfl
  case h_13 => obtain ⟨idx, rfl⟩ := barOperand_ok h; rfl
  case h_17 | h_22 => obtain ⟨k, rfl⟩ := lbOperand_ok h; rfl
  case h_24 => split at h <;> cases h
  all_goals cases h; rfl

/-- A bare operation's line holds an operation or nothing the decoder answers. -/
theorem formatOf_of_decode_opsel {bytes : List Byte} (h : decode .opsel bytes = .ok i) : formatOf i = .opsel := by
  cases bytes with
  | nil => cases h
  | cons code ops => exact formatOf_of_decodeOpsel h

end Sys2Proof
end

section
/-! PROOFS. What each micro-step of the foreground can do (45_gameplay R109 to R121), its guards included; the invariants and
the frames below read these instead of the definitions. -/
namespace Sys2Proof.Machine

variable {s t : State}

/-- `DISP.DIGITS` that answers a next state sets the display bytes. -/
theorem dispDigits_next {P : Params} {n : Byte} (h : dispDigits P n s = .next t) : ∃ l r, t = dispSet l r s := by
  rcases Nat.lt_or_ge n.toNat 110 with hn | hn
  · rw [dispDigits_lt P hn] at h
    exact ⟨_, _, (Host.Outcome.next.inj h).symm⟩
  · rw [dispDigits_ge P hn] at h
    cases h

theorem microSimPrep_ready (v : Byte) (s : State) :
    microSimPrep true v s =
      (tmrPrepare true v (lfsrSeed s)).setGame { s.game with playIdx := 0, fgPh := .simNext } := rfl

theorem microSimPrep_notReady (v : Byte) (s : State) :
    microSimPrep false v s = goPhase .top (tmrPrepare false v (lfsrSeed s)) := rfl

theorem microSimNext_cases (P : Params) (s : State) :
    (s.game.playIdx = s.game.seqLen ∧ microSimNext P s = goPhase .simDone s) ∨
      (s.game.playIdx ≠ s.game.seqLen ∧ microSimNext P s = goPhase .simOnWait (playStep P s)) := by
  unfold microSimNext
  split
  case isTrue h => exact .inl ⟨h, rfl⟩
  case isFalse h => exact .inr ⟨h, rfl⟩

theorem microSimOnWait_cases (P : Params) (s : State) :
    (reached (halfDelay s.time) s = false ∧ microSimOnWait P s = s) ∨
      (reached (halfDelay s.time) s = true ∧
        microSimOnWait P s = goPhase .simOffWait (tmrReset (dispBlank P (toneOff s)))) := by
  unfold microSimOnWait
  cases reached (halfDelay s.time) s
  · exact .inl ⟨rfl, rfl⟩
  · exact .inr ⟨rfl, rfl⟩

theorem microSimOffWait_cases (s : State) :
    (reached (halfDelay s.time) s = false ∧ microSimOffWait s = s) ∨
      (reached (halfDelay s.time) s = true ∧
        microSimOffWait s = s.setGame { s.game with playIdx := s.game.playIdx + 1, fgPh := .simNext }) := by
  unfold microSimOffWait
  cases reached (halfDelay s.time) s
  · exact .inl ⟨rfl, rfl⟩
  · exact .inr ⟨rfl, rfl⟩

theorem microPlyWait_cases (P : Params) (s : State) :
    (scanPress P s = none ∧ microPlyWait P s = goPhase .plyPost s) ∨
      ∃ i, scanPress P s = some i ∧ microPlyWait P s = goPhase .plyPost (recognise P i s) := by
  unfold microPlyWait
  cases scanPress P s with
  | none => exact .inl ⟨rfl, rfl⟩
  | some i => exact .inr ⟨i, rfl, rfl⟩

/-- The hold goes on, or the release latch is set and the half delay reached, and the input ends. -/
theorem microPlyHeld_cases (P : Params) (i : LB) (s : State) :
    microPlyHeld P i s = goPhase .plyPost (holdButton P i s) ∨
      ((holdButton P i s).game.released = true ∧ reached (halfDelay s.time) s = true ∧
        microPlyHeld P i s = goPhase .plyPost (finishInput P (holdButton P i s))) := by
  cases hend : (holdButton P i s).game.released && reached (halfDelay s.time) s with
  | false => exact .inl (congrArg (goPhase .plyPost) (if_neg (by rw [Bool.not_eq_true]; exact hend)))
  | true =>
    obtain ⟨hrel, hreach⟩ := Bool.and_eq_true_iff.1 hend
    exact .inr ⟨hrel, hreach, congrArg (goPhase .plyPost) (if_pos hend)⟩

/-- `SLOT` selects the WAIT scan or the held sub-state of its button. -/
theorem microPlySub_cases (P : Params) (s : State) :
    (s.game.slot = .wait ∧ microPlySub P s = microPlyWait P s) ∨
      ∃ i, s.game.slot = Slot.held i ∧ microPlySub P s = microPlyHeld P i s := by
  unfold microPlySub
  cases s.game.slot with
  | wait => exact .inl ⟨rfl, rfl⟩
  | b1 => exact .inr ⟨0, rfl, rfl⟩
  | b2 => exact .inr ⟨1, rfl, rfl⟩
  | b3 => exact .inr ⟨2, rfl, rfl⟩
  | b4 => exact .inr ⟨3, rfl, rfl⟩

theorem microPlyPost_cases (s : State) :
    (s.game.consumed = false ∧ microPlyPost s = goPhase .top s) ∨
      (s.game.consumed = true ∧ microPlyPost s = goPhase .top (s.setGame (judgeRound s.game))) := by
  unfold microPlyPost
  cases s.game.consumed
  · exact .inl ⟨rfl, rfl⟩
  · exact .inr ⟨rfl, rfl⟩

/-- The three outcomes of a consumed input: fail, success, or the round goes on. -/
theorem judgeRound_cases (g : Game) :
    (g.incorrect = true ∧
      judgeRound g = { g with consumed := false, incorrect := false, inputCnt := 0, stage := .fail }) ∨
    (g.incorrect = false ∧ g.inputCnt = g.seqLen ∧
      judgeRound g = { g with consumed := false, inputCnt := 0, stage := .success }) ∨
    (g.incorrect = false ∧ g.inputCnt ≠ g.seqLen ∧ judgeRound g = { g with consumed := false }) := by
  unfold judgeRound
  cases g.incorrect
  · by_cases hcnt : g.inputCnt = g.seqLen
    · exact .inr (.inl ⟨rfl, hcnt, if_pos hcnt⟩)
    · exact .inr (.inr ⟨rfl, hcnt, if_neg hcnt⟩)
  · exact .inl ⟨rfl, rfl⟩

theorem microSucWait_cases (P : Params) (s : State) :
    (reached s.time.playbackDelay s = false ∧ microSucWait P s = s) ∨
      (reached s.time.playbackDelay s = true ∧
        microSucWait P s =
          (dispBlank P s).setGame { s.game with seqLen := s.game.seqLen + 1, stage := .simon, fgPh := .top }) := by
  unfold microSucWait
  cases reached s.time.playbackDelay s
  · exact .inl ⟨rfl, rfl⟩
  · exact .inr ⟨rfl, rfl⟩

theorem microFailWait2_cases (P : Params) (s : State) :
    (reached s.time.playbackDelay s = false ∧ microFailWait2 P s = s) ∨
      (reached s.time.playbackDelay s = true ∧
        microFailWait2 P s =
          (lfsrSave (lfsrAdvance P (dispBlank P s))).setGame { s.game with stage := .init, fgPh := .top }) := by
  unfold microFailWait2
  cases reached s.time.playbackDelay s
  · exact .inl ⟨rfl, rfl⟩
  · exact .inr ⟨rfl, rfl⟩

end Sys2Proof.Machine
end

section
/-! PROOFS. The units' invariant, operation by operation: an update of anything else keeps it, and each unit's own operations
keep it (10_state R28, R29; 41 R77, R79; 44 R99, R100). -/
namespace Sys2Proof.Safety

open Sys2Proof.Machine

variable {s t : State}

/-! ## Updates of what the invariant does not speak of -/

theorem UnitInv.after_setSeq (h : UnitInv s) (x : Seq) : UnitInv (s.setSeq x) := { h with }
theorem UnitInv.after_setGame (h : UnitInv s) (x : Game) : UnitInv (s.setGame x) := { h with }
theorem UnitInv.after_setMux (h : UnitInv s) (x : Mux) : UnitInv (s.setMux x) := { h with }
theorem UnitInv.after_setPanel (h : UnitInv s) (x : Panel) : UnitInv (s.setPanel x) := { h with }
theorem UnitInv.after_setOct (h : UnitInv s) (x : Octave) : UnitInv (s.setOct x) := { h with }
theorem UnitInv.after_setWave (h : UnitInv s) (x : Wave) : UnitInv (s.setWave x) := { h with }
theorem UnitInv.after_setKey (h : UnitInv s) (x : Key) : UnitInv (s.setKey x) := { h with }
theorem UnitInv.after_setIe (h : UnitInv s) (x : Bool) : UnitInv (s.setIe x) := { h with }
theorem UnitInv.after_setStrobes (h : UnitInv s) (x : Strobes) : UnitInv (s.setStrobes x) := { h with }
theorem UnitInv.after_setRet (h : UnitInv s) (x : Bool) : UnitInv (s.setRet x) := { h with }
theorem UnitInv.after_setWait (h : UnitInv s) (x : Option WaitKind) : UnitInv (s.setWait x) := { h with }

/-! ## The units' own operations -/

/-- A sample's delay is a prepared one (42 R86). -/
theorem prepared_delayOf (v : Byte) : prepared (delayOf v) := by
  have hv := v.isLt
  unfold prepared
  rw [delayOf_toNat]
  omega

theorem UnitInv.after_dbTick (h : UnitInv s) (raw : Byte) : UnitInv (dbTick Config.params raw s) :=
  { h with
    counts := fun b hb => by
      rw [dbTick_eq]
      show ((debounce Config.debounceN raw s.deb).bitAt b).cnt < _
      rw [debounce_bitAt _ _ _ hb]
      exact debounceBit_cnt_lt _ _ (h.counts b hb) }

theorem UnitInv.after_edgeSample (h : UnitInv s) : UnitInv (edgeSample s) :=
  { h with changed := rfl, falling := rfl, rising := rfl }

theorem UnitInv.after_tmrTick (h : UnitInv s) : UnitInv (tmrTick s) := { h with }

theorem UnitInv.after_tmrReset (h : UnitInv s) : UnitInv (tmrReset s) := { h with }

theorem UnitInv.after_tmrPrepare (h : UnitInv s) (r : Bool) (v : Byte) : UnitInv (tmrPrepare r v s) := by
  cases r with
  | true =>
    rw [tmrPrepare_ready]
    exact { h with delay := .inr (prepared_delayOf v), ready := fun _ => prepared_delayOf v }
  | false =>
    rw [tmrPrepare_notReady]
    exact { h with ready := nofun }

theorem UnitInv.after_dispSet (h : UnitInv s) (l r : Seg) : UnitInv (dispSet l r s) :=
  { h with leftMark := leftByte_mark l, rightMark := rightByte_mark r }

theorem UnitInv.after_dispRender (h : UnitInv s) (P : Params) (idx : BarIdx) : UnitInv (dispRender P idx s) :=
  h.after_dispSet _ _

theorem UnitInv.after_dispBlank (h : UnitInv s) (P : Params) : UnitInv (dispBlank P s) := h.after_dispRender P 4

theorem UnitInv.after_toneOn (h : UnitInv s) (P : Params) (i : LB) : UnitInv (toneOn P i s) := { h with duty := .inr rfl }

theorem UnitInv.after_toneOff (h : UnitInv s) : UnitInv (toneOff s) := { h with duty := .inl rfl }

theorem UnitInv.after_lfsrAdvance (h : UnitInv s) (P : Params) : UnitInv (lfsrAdvance P s) := h.after_setSeq _

theorem UnitInv.after_lfsrSeed (h : UnitInv s) : UnitInv (lfsrSeed s) := h.after_setSeq _

theorem UnitInv.after_lfsrSave (h : UnitInv s) : UnitInv (lfsrSave s) := h.after_setSeq _

theorem UnitInv.after_shipByte (h : UnitInv s) : UnitInv (shipByte s) := (h.after_setMux _).after_setStrobes _

theorem UnitInv.after_dispLatch (h : UnitInv s) : UnitInv (dispLatch s) :=
  ((h.after_setMux _).after_setPanel _).after_setStrobes _

theorem UnitInv.after_goPhase (h : UnitInv s) (ph : Phase) : UnitInv (goPhase ph s) := h.after_setGame _

/-- The reset table: markers set, counts 0, no edge, no delay, silence (70 R159). -/
theorem unitInv_resetWith (P : Params) : UnitInv (State.resetWith P) where
  leftMark := leftByte_mark _
  rightMark := rightByte_mark _
  counts := show ∀ b, b < 8 → ((⟨0xFF, 0, 0⟩ : Deb).bitAt b).cnt < Config.debounceN.count by decide
  changed := show (0 : Byte) = 0xFF ^^^ 0xFF by decide
  falling := show (0 : Byte) = (0xFF ^^^ 0xFF) &&& 0xFF by decide
  rising := show (0 : Byte) = (0xFF ^^^ 0xFF) &&& 0xFF by decide
  delay := .inl rfl
  ready := nofun
  duty := .inl rfl

/-! ## The foreground's micro-steps -/

theorem unitInv_microSimPrep (h : UnitInv s) (r : Bool) (v : Byte) : UnitInv (microSimPrep r v s) := by
  cases r with
  | true =>
    rw [microSimPrep_ready]
    exact (h.after_lfsrSeed.after_tmrPrepare true v).after_setGame _
  | false =>
    rw [microSimPrep_notReady]
    exact (h.after_lfsrSeed.after_tmrPrepare false v).after_goPhase _

theorem unitInv_playStep (h : UnitInv s) (P : Params) : UnitInv (playStep P s) :=
  (((h.after_lfsrAdvance P).after_toneOn P _).after_dispRender P _).after_tmrReset

theorem unitInv_microSimNext (h : UnitInv s) (P : Params) : UnitInv (microSimNext P s) := by
  rcases microSimNext_cases P s with ⟨-, he⟩ | ⟨-, he⟩ <;> rw [he]
  · exact h.after_goPhase _
  · exact (unitInv_playStep h P).after_goPhase _

theorem unitInv_microSimOnWait (h : UnitInv s) (P : Params) : UnitInv (microSimOnWait P s) := by
  rcases microSimOnWait_cases P s with ⟨-, he⟩ | ⟨-, he⟩ <;> rw [he]
  · exact h
  · exact ((h.after_toneOff.after_dispBlank P).after_tmrReset).after_goPhase _

theorem unitInv_microSimOffWait (h : UnitInv s) : UnitInv (microSimOffWait s) := by
  rcases microSimOffWait_cases s with ⟨-, he⟩ | ⟨-, he⟩ <;> rw [he]
  · exact h
  · exact h.after_setGame _

theorem unitInv_recognise (h : UnitInv s) (P : Params) (i : LB) : UnitInv (recognise P i s) := by
  rw [recognise_eq]
  exact (((h.after_lfsrAdvance P).after_tmrReset).after_setGame _).after_setKey _

theorem unitInv_microPlyWait (h : UnitInv s) (P : Params) : UnitInv (microPlyWait P s) := by
  rcases microPlyWait_cases P s with ⟨-, he⟩ | ⟨i, -, he⟩ <;> rw [he]
  · exact h.after_goPhase _
  · exact (unitInv_recognise h P i).after_goPhase _

theorem unitInv_holdButton (h : UnitInv s) (P : Params) (i : LB) : UnitInv (holdButton P i s) :=
  ((h.after_toneOn P i).after_dispRender P _).after_setGame _

theorem unitInv_finishInput (h : UnitInv s) (P : Params) : UnitInv (finishInput P s) :=
  (h.after_toneOff.after_dispBlank P).after_setGame _

theorem unitInv_microPlyHeld (h : UnitInv s) (P : Params) (i : LB) : UnitInv (microPlyHeld P i s) := by
  have hheld := unitInv_holdButton h P i
  rcases microPlyHeld_cases P i s with he | ⟨-, -, he⟩ <;> rw [he]
  · exact hheld.after_goPhase _
  · exact (unitInv_finishInput hheld P).after_goPhase _

theorem unitInv_microPlySub (h : UnitInv s) (P : Params) : UnitInv (microPlySub P s) := by
  rcases microPlySub_cases P s with ⟨-, he⟩ | ⟨i, -, he⟩ <;> rw [he]
  · exact unitInv_microPlyWait h P
  · exact unitInv_microPlyHeld h P i

theorem unitInv_microPlyPost (h : UnitInv s) : UnitInv (microPlyPost s) := by
  rcases microPlyPost_cases s with ⟨-, he⟩ | ⟨-, he⟩ <;> rw [he]
  · exact h.after_goPhase _
  · exact (h.after_setGame _).after_goPhase _

theorem unitInv_microSucWait (h : UnitInv s) (P : Params) : UnitInv (microSucWait P s) := by
  rcases microSucWait_cases P s with ⟨-, he⟩ | ⟨-, he⟩ <;> rw [he]
  · exact h
  · exact (h.after_dispBlank P).after_setGame _

theorem unitInv_microFailWait1 {P : Params} (h : UnitInv s) (hst : microFailWait1 P s = .next t) : UnitInv t := by
  rcases microFailWait1_next hst with ⟨-, rfl⟩ | ⟨-, u, hu, rfl⟩
  · exact h
  · obtain ⟨l, r, rfl⟩ := dispDigits_next hu
    exact ((h.after_dispSet l r).after_tmrReset).after_goPhase _

theorem unitInv_microFailWait2 (h : UnitInv s) (P : Params) : UnitInv (microFailWait2 P s) := by
  rcases microFailWait2_cases P s with ⟨-, he⟩ | ⟨-, he⟩ <;> rw [he]
  · exact h
  · exact (((h.after_dispBlank P).after_lfsrAdvance P).after_lfsrSave).after_setGame _

/-- Whatever micro-step the phase selects, the units keep their invariant. -/
theorem unitInv_microStep {P : Params} {r : Bool} {v : Byte} (h : UnitInv s) (hst : microStep P r v s = .next t) :
    UnitInv t := by
  unfold microStep at hst
  cases hp : s.game.fgPh <;> rw [hp] at hst
  case failWait1 => exact unitInv_microFailWait1 h hst
  all_goals cases hst
  case boot => exact (h.after_setIe true).after_goPhase _
  case top => exact h.after_edgeSample.after_goPhase _
  case init => exact h.after_setGame _
  case simPrep => exact unitInv_microSimPrep h r v
  case simNext => exact unitInv_microSimNext h P
  case simOnWait => exact unitInv_microSimOnWait h P
  case simOffWait => exact unitInv_microSimOffWait h
  case simDone => exact h.after_lfsrSeed.after_setGame _
  case plySub => exact unitInv_microPlySub h P
  case plyPost => exact unitInv_microPlyPost h
  case sucShow => exact ((h.after_dispSet _ _).after_tmrReset).after_goPhase _
  case sucWait => exact unitInv_microSucWait h P
  case failShow => exact ((h.after_dispSet _ _).after_tmrReset).after_goPhase _
  case failWait2 => exact unitInv_microFailWait2 h P

end Sys2Proof.Safety
end

section
/-! PROOFS. The foreground's invariant: it speaks of the gameplay registers, `IE` and the delay only, and each micro-step's move
keeps it (45_gameplay R106 to R121). The rules of introduction say once what a state of a kind has to meet; the micro-steps cite them. -/
namespace Sys2Proof.Safety

open Sys2Proof.Machine

variable {s t : State}

/-! ## Rules of introduction -/

/-- Nothing of the invariant changes with other registers, and a delay written anew is a prepared one. -/
theorem ForegroundInv.of_eq (h : ForegroundInv s) (hg : t.game = s.game) (hie : t.ie = s.ie)
    (hd : prepared s.time.playbackDelay → prepared t.time.playbackDelay) : ForegroundInv t where
  stageOfPhase := hg ▸ h.stageOfPhase
  enabled := hg ▸ hie ▸ h.enabled
  idle := hg ▸ h.idle
  consumed := hg ▸ h.consumed
  incorrect := hg ▸ h.incorrect
  nextIdx := hg ▸ h.nextIdx
  waitIdx := hg ▸ h.waitIdx
  doneIdx := hg ▸ h.doneIdx
  delayLive := fun hlive => hd (h.delayLive (hg ▸ hlive))

/-- Events are enabled after `BOOT`. -/
theorem ForegroundInv.ie_of_phase (h : ForegroundInv s) {p : Phase} (hp : s.game.fgPh = p) (hboot : p ≠ .boot := by decide) :
    s.ie = true := h.enabled.2 (hp ▸ hboot)

/-- A consumed input waits for `PLY_POST` alone. -/
theorem ForegroundInv.consumed_of_phase (h : ForegroundInv s) {p : Phase} (hp : s.game.fgPh = p)
    (hpost : p ≠ .plyPost := by decide) : s.game.consumed = false :=
  Bool.eq_false_iff.2 fun hc => hpost (hp.symm.trans (h.consumed hc).1)

/-- In `TOP`, of whatever stage: the delay is read in the stages from PLAYER on. -/
theorem ForegroundInv.of_top (hph : t.game.fgPh = .top) (hie : t.ie = true) (hcons : t.game.consumed = false)
    (hidle : t.game.stage ≠ .player → t.game.slot = .wait ∧ t.game.inputCnt = 0 ∧ t.game.incorrect = false)
    (hinc : t.game.incorrect = true → t.game.slot ≠ .wait)
    (hd : t.game.stage = .player ∨ t.game.stage = .success ∨ t.game.stage = .fail → prepared t.time.playbackDelay) :
    ForegroundInv t where
  stageOfPhase := by rw [hph]; nofun
  enabled := by simp [hph, hie]
  idle := hidle
  consumed := by simp [hcons]
  incorrect := fun h => .inl (hinc h)
  nextIdx := by simp [hph]
  waitIdx := by simp [hph]
  doneIdx := by simp [hph]
  delayLive := by
    rintro (h | h | h | ⟨-, h, -⟩)
    · exact hd (.inl h)
    · exact hd (.inr (.inl h))
    · exact hd (.inr (.inr h))
    · exact absurd hph h

/-- In `PLY_POST`, where a consumed input is met with the slot back at WAIT. -/
theorem ForegroundInv.of_plyPost (hph : t.game.fgPh = .plyPost) (hstage : t.game.stage = .player) (hie : t.ie = true)
    (hcons : t.game.consumed = true → t.game.slot = .wait)
    (hinc : t.game.incorrect = true → t.game.slot ≠ .wait ∨ t.game.consumed = true)
    (hd : prepared t.time.playbackDelay) : ForegroundInv t where
  stageOfPhase := by simp [hph, hstage, phaseStage]
  enabled := by simp [hph, hie]
  idle := fun h => absurd hstage h
  consumed := fun h => ⟨hph, hcons h⟩
  incorrect := hinc
  nextIdx := by simp [hph]
  waitIdx := by simp [hph]
  doneIdx := by simp [hph]
  delayLive := fun _ => hd

/-- What the phases of SIMON ask of the playback index `k` and the sequence length `n` (45 R110, R112). -/
def IndexFits (ph : Phase) (k n : Byte) : Prop :=
  (ph = .simNext → k.toNat ≤ n.toNat) ∧ (ph = .simOnWait ∨ ph = .simOffWait → k.toNat < n.toNat) ∧ (ph = .simDone → k = n)

/-- A move within the stage, from a phase where no input is consumed: only the phase and the playback index change. -/
theorem ForegroundInv.move (h : ForegroundInv s) {p ph : Phase} {k : Byte} (hp : s.game.fgPh = p)
    (hg : t.game = { s.game with playIdx := k, fgPh := ph }) (hie : t.ie = s.ie)
    (hstage : phaseStage ph = some s.game.stage) (hidx : IndexFits ph k s.game.seqLen)
    (hd : s.game.stage = .init ∨ ph = .simPrep ∨ prepared t.time.playbackDelay)
    (hleave : p ≠ .boot ∧ p ≠ .plyPost := by decide) (hnotBoot : ph ≠ .boot := by decide) : ForegroundInv t where
  stageOfPhase := by rw [hg]; intro g hgs; exact Option.some.inj (hstage.symm.trans hgs)
  enabled := by simp [hg, hie, h.ie_of_phase hp hleave.1, hnotBoot]
  idle := by rw [hg]; exact h.idle
  consumed := by simp [hg, h.consumed_of_phase hp hleave.2]
  incorrect := by rw [hg]; exact h.incorrect
  nextIdx := by rw [hg]; exact hidx.1
  waitIdx := by rw [hg]; exact hidx.2.1
  doneIdx := by rw [hg]; exact hidx.2.2
  delayLive := by
    rw [hg]
    rcases hd with hinit | rfl | hprep
    · simp [hinit]
    · cases hstage' : s.game.stage <;> simp [phaseStage, hstage'] at hstage ⊢
    · exact fun _ => hprep

/-- The delay is prepared in every phase of SIMON after `SIM_PREP`. -/
theorem ForegroundInv.prepared_of_simon (h : ForegroundInv s) {p : Phase} (hp : s.game.fgPh = p)
    (hsim : phaseStage p = some .simon := by rfl) (hprep : p ≠ .simPrep := by decide) : prepared s.time.playbackDelay := by
  refine h.delayLive (.inr (.inr (.inr ⟨h.stageOfPhase _ (hp ▸ hsim), ?_, hp ▸ hprep⟩)))
  intro htop
  rw [← hp, htop] at hsim
  cases hsim

/-! ## The micro-steps -/

theorem foregroundInv_microBoot (h : ForegroundInv s) (hp : s.game.fgPh = .boot) : ForegroundInv (microBoot s) := by
  have hstage : s.game.stage = .init := h.stageOfPhase _ (hp ▸ rfl)
  obtain ⟨hslot, hcnt, hinc⟩ := h.idle (by simp [hstage])
  exact .of_top rfl rfl (h.consumed_of_phase hp) (fun _ => ⟨hslot, hcnt, hinc⟩)
    (by simp [microBoot, goPhase, hinc]) (by simp [microBoot, goPhase, hstage])

theorem phaseStage_stagePhase (g : Stage) : phaseStage (stagePhase g) = some g := by cases g <;> rfl

theorem foregroundInv_microTop (h : ForegroundInv s) (hp : s.game.fgPh = .top) : ForegroundInv (microTop s) := by
  refine h.move hp rfl rfl (phaseStage_stagePhase _) ?_ ?_ (hnotBoot := ?_)
  · cases s.game.stage <;> simp [IndexFits, stagePhase]
  · cases hs : s.game.stage
    · exact .inl rfl
    · exact .inr (.inl rfl)
    all_goals exact .inr (.inr (h.delayLive (by simp [hs])))
  · cases s.game.stage <;> decide

theorem foregroundInv_microInit (h : ForegroundInv s) (hp : s.game.fgPh = .init) : ForegroundInv (microInit s) := by
  have hstage : s.game.stage = .init := h.stageOfPhase _ (hp ▸ rfl)
  obtain ⟨hslot, hcnt, hinc⟩ := h.idle (by simp [hstage])
  exact .of_top rfl (h.ie_of_phase hp) (h.consumed_of_phase hp) (fun _ => ⟨hslot, hcnt, hinc⟩)
    (by simp [microInit, hinc]) (by simp [microInit])

theorem foregroundInv_microSimPrep (h : ForegroundInv s) (hp : s.game.fgPh = .simPrep) (r : Bool) (v : Byte) :
    ForegroundInv (microSimPrep r v s) := by
  have hstage : s.game.stage = .simon := h.stageOfPhase _ (hp ▸ rfl)
  cases r with
  | true =>
    rw [microSimPrep_ready]
    exact h.move hp rfl rfl (hstage ▸ rfl) (by simp [IndexFits]) (.inr (.inr (prepared_delayOf v)))
  | false =>
    obtain ⟨hslot, hcnt, hinc⟩ := h.idle (by simp [hstage])
    rw [microSimPrep_notReady, tmrPrepare_notReady]
    exact .of_top rfl (h.ie_of_phase hp) (h.consumed_of_phase hp) (fun _ => ⟨hslot, hcnt, hinc⟩)
      (by simp [goPhase, lfsrSeed, hinc]) (by simp [goPhase, lfsrSeed, hstage])

theorem foregroundInv_microSimNext (h : ForegroundInv s) (hp : s.game.fgPh = .simNext) (P : Params) :
    ForegroundInv (microSimNext P s) := by
  have hstage : s.game.stage = .simon := h.stageOfPhase _ (hp ▸ rfl)
  have hprep := h.prepared_of_simon hp
  have hle := h.nextIdx hp
  rcases microSimNext_cases P s with ⟨hend, he⟩ | ⟨hmore, he⟩ <;> rw [he]
  · exact h.move hp rfl rfl (hstage ▸ rfl) (by simp [IndexFits, hend]) (.inr (.inr hprep))
  · have hlt : s.game.playIdx.toNat < s.game.seqLen.toNat :=
      Nat.lt_of_le_of_ne hle fun heq => hmore (BitVec.eq_of_toNat_eq heq)
    exact h.move (k := s.game.playIdx) hp rfl rfl (hstage ▸ rfl) (by simp [IndexFits, hlt]) (.inr (.inr hprep))

theorem foregroundInv_microSimOnWait (h : ForegroundInv s) (hp : s.game.fgPh = .simOnWait) (P : Params) :
    ForegroundInv (microSimOnWait P s) := by
  have hstage : s.game.stage = .simon := h.stageOfPhase _ (hp ▸ rfl)
  rcases microSimOnWait_cases P s with ⟨-, he⟩ | ⟨-, he⟩ <;> rw [he]
  · exact h
  · exact h.move (k := s.game.playIdx) hp rfl rfl (hstage ▸ rfl) (by simp [IndexFits, h.waitIdx (.inl hp)])
      (.inr (.inr (h.prepared_of_simon hp)))

theorem foregroundInv_microSimOffWait (h : ForegroundInv s) (hp : s.game.fgPh = .simOffWait) :
    ForegroundInv (microSimOffWait s) := by
  have hstage : s.game.stage = .simon := h.stageOfPhase _ (hp ▸ rfl)
  have hlt := h.waitIdx (.inr hp)
  rcases microSimOffWait_cases s with ⟨-, he⟩ | ⟨-, he⟩ <;> rw [he]
  · exact h
  · have hle : (s.game.playIdx + 1).toNat ≤ s.game.seqLen.toNat := by bv_omega
    exact h.move hp rfl rfl (hstage ▸ rfl) (by simpa [IndexFits] using hle) (.inr (.inr (h.prepared_of_simon hp)))

theorem foregroundInv_microSimDone (h : ForegroundInv s) (hp : s.game.fgPh = .simDone) : ForegroundInv (microSimDone s) := by
  have hstage : s.game.stage = .simon := h.stageOfPhase _ (hp ▸ rfl)
  obtain ⟨-, -, hinc⟩ := h.idle (by simp [hstage])
  exact .of_top rfl (h.ie_of_phase hp) (h.consumed_of_phase hp) (fun hne => absurd rfl hne)
    (by simp [microSimDone, lfsrSeed, hinc]) (fun _ => h.prepared_of_simon hp)

theorem slot_held_ne_wait (i : LB) : Slot.held i ≠ .wait := by revert i; decide

theorem foregroundInv_microPlyWait (h : ForegroundInv s) (hp : s.game.fgPh = .plySub) (hslot : s.game.slot = .wait)
    (P : Params) : ForegroundInv (microPlyWait P s) := by
  have hstage : s.game.stage = .player := h.stageOfPhase _ (hp ▸ rfl)
  have hcons := h.consumed_of_phase hp
  have hprep := h.delayLive (.inl hstage)
  rcases microPlyWait_cases P s with ⟨-, he⟩ | ⟨i, -, he⟩ <;> rw [he]
  · exact .of_plyPost rfl hstage (h.ie_of_phase hp) (fun _ => hslot) h.incorrect hprep
  · rw [recognise_eq]
    exact .of_plyPost rfl hstage (h.ie_of_phase hp) (by simp [goPhase, hcons])
      (fun _ => .inl (slot_held_ne_wait i)) hprep

theorem foregroundInv_microPlyHeld (h : ForegroundInv s) (hp : s.game.fgPh = .plySub) {i : LB}
    (hslot : s.game.slot = Slot.held i) (P : Params) : ForegroundInv (microPlyHeld P i s) := by
  have hstage : s.game.stage = .player := h.stageOfPhase _ (hp ▸ rfl)
  have hcons := h.consumed_of_phase hp
  have hprep := h.delayLive (.inl hstage)
  rcases microPlyHeld_cases P i s with he | ⟨-, -, he⟩ <;> rw [he]
  · exact .of_plyPost rfl hstage (h.ie_of_phase hp) (by simp [goPhase, holdButton_eq, hcons])
      (fun _ => .inl (hslot ▸ slot_held_ne_wait i)) hprep
  · exact .of_plyPost rfl hstage (h.ie_of_phase hp) (fun _ => rfl) (fun _ => .inr rfl) hprep

theorem foregroundInv_microPlySub (h : ForegroundInv s) (hp : s.game.fgPh = .plySub) (P : Params) :
    ForegroundInv (microPlySub P s) := by
  rcases microPlySub_cases P s with ⟨hslot, he⟩ | ⟨i, hslot, he⟩ <;> rw [he]
  · exact foregroundInv_microPlyWait h hp hslot P
  · exact foregroundInv_microPlyHeld h hp hslot P

theorem foregroundInv_microPlyPost (h : ForegroundInv s) (hp : s.game.fgPh = .plyPost) : ForegroundInv (microPlyPost s) := by
  have hstage : s.game.stage = .player := h.stageOfPhase _ (hp ▸ rfl)
  have hie := h.ie_of_phase hp
  have hprep := h.delayLive (.inl hstage)
  rcases microPlyPost_cases s with ⟨hcons, he⟩ | ⟨hcons, he⟩ <;> rw [he]
  · have hheld : s.game.incorrect = true → s.game.slot ≠ .wait := fun hinc =>
      (h.incorrect hinc).resolve_right (by simp [hcons])
    exact .of_top rfl hie hcons h.idle hheld fun _ => hprep
  · obtain ⟨-, hslot⟩ := h.consumed hcons
    rcases judgeRound_cases s.game with ⟨-, hj⟩ | ⟨hinc, -, hj⟩ | ⟨hinc, -, hj⟩ <;> rw [hj]
    · exact .of_top rfl hie rfl (fun _ => ⟨hslot, rfl, rfl⟩) nofun fun _ => hprep
    · exact .of_top rfl hie rfl (fun _ => ⟨hslot, rfl, hinc⟩) (by simp [goPhase, hinc]) fun _ => hprep
    · exact .of_top rfl hie rfl (fun hne => absurd hstage hne) (by simp [goPhase, hinc]) fun _ => hprep

theorem foregroundInv_microSucShow (h : ForegroundInv s) (hp : s.game.fgPh = .sucShow) (P : Params) :
    ForegroundInv (microSucShow P s) := by
  have hstage : s.game.stage = .success := h.stageOfPhase _ (hp ▸ rfl)
  exact h.move hp rfl rfl (hstage ▸ rfl) (by simp [IndexFits]) (.inr (.inr (h.delayLive (by simp [hstage]))))

theorem foregroundInv_microSucWait (h : ForegroundInv s) (hp : s.game.fgPh = .sucWait) (P : Params) :
    ForegroundInv (microSucWait P s) := by
  have hstage : s.game.stage = .success := h.stageOfPhase _ (hp ▸ rfl)
  obtain ⟨hslot, hcnt, hinc⟩ := h.idle (by simp [hstage])
  rcases microSucWait_cases P s with ⟨-, he⟩ | ⟨-, he⟩ <;> rw [he]
  · exact h
  · exact .of_top rfl (h.ie_of_phase hp) (h.consumed_of_phase hp) (fun _ => ⟨hslot, hcnt, hinc⟩)
      (by simp [hinc]) (by simp)

theorem foregroundInv_microFailShow (h : ForegroundInv s) (hp : s.game.fgPh = .failShow) (P : Params) :
    ForegroundInv (microFailShow P s) := by
  have hstage : s.game.stage = .fail := h.stageOfPhase _ (hp ▸ rfl)
  exact h.move hp rfl rfl (hstage ▸ rfl) (by simp [IndexFits]) (.inr (.inr (h.delayLive (by simp [hstage]))))

theorem foregroundInv_microFailWait1 (h : ForegroundInv s) (hp : s.game.fgPh = .failWait1) {P : Params}
    (hst : microFailWait1 P s = .next t) : ForegroundInv t := by
  have hstage : s.game.stage = .fail := h.stageOfPhase _ (hp ▸ rfl)
  rcases microFailWait1_next hst with ⟨-, rfl⟩ | ⟨-, u, hu, rfl⟩
  · exact h
  · obtain ⟨l, r, rfl⟩ := dispDigits_next hu
    exact h.move hp rfl rfl (hstage ▸ rfl) (by simp [IndexFits]) (.inr (.inr (h.delayLive (by simp [hstage]))))

theorem foregroundInv_microFailWait2 (h : ForegroundInv s) (hp : s.game.fgPh = .failWait2) (P : Params) :
    ForegroundInv (microFailWait2 P s) := by
  have hstage : s.game.stage = .fail := h.stageOfPhase _ (hp ▸ rfl)
  obtain ⟨hslot, hcnt, hinc⟩ := h.idle (by simp [hstage])
  rcases microFailWait2_cases P s with ⟨-, he⟩ | ⟨-, he⟩ <;> rw [he]
  · exact h
  · exact .of_top rfl (h.ie_of_phase hp) (h.consumed_of_phase hp) (fun _ => ⟨hslot, hcnt, hinc⟩)
      (by simp [hinc]) (by simp)

/-- Whatever micro-step the phase selects, the foreground keeps its invariant. -/
theorem foregroundInv_microStep {P : Params} {r : Bool} {v : Byte} (h : ForegroundInv s)
    (hst : microStep P r v s = .next t) : ForegroundInv t := by
  unfold microStep at hst
  cases hp : s.game.fgPh <;> rw [hp] at hst
  case failWait1 => exact foregroundInv_microFailWait1 h hp hst
  all_goals cases hst
  case boot => exact foregroundInv_microBoot h hp
  case top => exact foregroundInv_microTop h hp
  case init => exact foregroundInv_microInit h hp
  case simPrep => exact foregroundInv_microSimPrep h hp r v
  case simNext => exact foregroundInv_microSimNext h hp P
  case simOnWait => exact foregroundInv_microSimOnWait h hp P
  case simOffWait => exact foregroundInv_microSimOffWait h hp
  case simDone => exact foregroundInv_microSimDone h hp
  case plySub => exact foregroundInv_microPlySub h hp P
  case plyPost => exact foregroundInv_microPlyPost h hp
  case sucShow => exact foregroundInv_microSucShow h hp P
  case sucWait => exact foregroundInv_microSucWait h hp P
  case failShow => exact foregroundInv_microFailShow h hp P
  case failWait2 => exact foregroundInv_microFailWait2 h hp P

/-- The reset table: `BOOT` in INIT, events disabled, counters and flags clear (70 R159). -/
theorem foregroundInv_resetWith (P : Params) : ForegroundInv (State.resetWith P) where
  stageOfPhase := by intro g hg; cases hg; rfl
  enabled := by simp [State.resetWith]
  idle := fun _ => ⟨rfl, rfl, rfl⟩
  consumed := nofun
  incorrect := nofun
  nextIdx := nofun
  waitIdx := by rintro (h | h) <;> cases h
  doneIdx := nofun
  delayLive := by simp [State.resetWith]

end Sys2Proof.Safety
end

section
/-! PROOFS. The block's invariant over a whole step: the reset step, an agent's instruction, or a bare operation. -/
namespace Sys2Proof.Safety

open Sys2Proof.Machine

variable {s t : State}

/-- An operation of the units alone: game, `IE` and the readiness of the delay stay. -/
theorem BlockInv.of_units (h : BlockInv s) (hu : UnitInv t) (hg : t.game = s.game) (hie : t.ie = s.ie)
    (hd : prepared s.time.playbackDelay → prepared t.time.playbackDelay) : BlockInv t :=
  ⟨hu, h.foreground.of_eq hg hie hd⟩

theorem prepared_tmrPrepare (r : Bool) (v : Byte) (h : prepared s.time.playbackDelay) :
    prepared (tmrPrepare r v s).time.playbackDelay := by
  cases r with
  | true => exact prepared_delayOf v
  | false => exact h

theorem blockInv_keyPress (h : BlockInv s) (i : LB) : BlockInv (keyPress i s) := by
  unfold keyPress
  split
  · exact h.of_units (h.units.after_setKey _) rfl rfl id
  · exact h

/-- The reset step reaches the reset table, but for cells no invariant speaks of. -/
theorem blockInv_resetStep (P : Params) (s : State) : BlockInv (resetStep P s) :=
  ⟨{ unitInv_resetWith P with }, (foregroundInv_resetWith P).of_eq rfl rfl id⟩

/-- The lines, the counter of free values and the strobes are no part of the invariant. -/
theorem BlockInv.after_fetch (h : BlockInv s) (ls : List Line) (n : Nat) :
    BlockInv { s with trace := ls, draws := n, strobes := .low } :=
  h.of_units { h.units with } rfl rfl id

/-- A taken event keeps the invariant when its handler does. -/
theorem blockInv_takeEvent {f : State → Answer} (h : BlockInv s) (hf : f s = .next t → BlockInv t)
    (hst : takeEvent f s = .next t) : BlockInv t := by
  rcases takeEvent_next hst with ⟨-, hrun⟩ | ⟨-, rfl⟩
  · exact hf hrun
  · exact h

theorem blockInv_handleT5 (h : BlockInv s) {raw : Byte} (hst : handleT5 Config.params raw s = .next t) : BlockInv t := by
  obtain ⟨-, rfl⟩ := dispTick_next hst
  exact h.of_units (h.units.after_dbTick raw).after_shipByte rfl rfl id

theorem blockInv_rxCommand (h : BlockInv s) (c : Byte) : BlockInv (rxCommand c s) := by
  obtain ⟨k, o, he⟩ := rxCommand_eq c s
  rw [he]
  exact h.of_units ((h.units.after_setKey k).after_setOct o) rfl rfl id

theorem blockInv_foregroundStep {P : Params} {r : Bool} {v : Byte} (h : BlockInv s)
    (hst : foregroundStep P r v s = .next t) : BlockInv t := by
  unfold foregroundStep at hst
  split at hst
  case h_1 k _ =>
    cases hst
    rw [pollWait_eq]
    exact h.of_units (h.units.after_setWait _) rfl rfl id
  case h_2 => exact ⟨unitInv_microStep h.units hst, foregroundInv_microStep h.foreground hst⟩

/-- An agent's step (30_encoding R66). -/
theorem blockInv_agent (h : BlockInv s) (p : InPorts) (a : Agent) (hst : exec (agentInstr p a) s = .next t) : BlockInv t := by
  cases a with
  | fg => exact blockInv_foregroundStep h hst
  | t1 =>
    refine blockInv_takeEvent h (fun hrun => ?_) hst
    cases hrun
    exact h.of_units h.units.after_tmrTick rfl rfl id
  | t5 => exact blockInv_takeEvent h (blockInv_handleT5 h) hst
  | xd =>
    refine blockInv_takeEvent h (fun hrun => ?_) hst
    cases hrun
    exact h.of_units h.units.after_dispLatch rfl rfl id
  | rx =>
    refine blockInv_takeEvent h (fun hrun => ?_) hst
    cases hrun
    exact blockInv_rxCommand h _
  | pc =>
    cases hst
    exact h.of_units (h.units.after_setWave _) rfl rfl id

/-- A bare operation (30_encoding R67; log 4): none writes the game or `IE`. -/
theorem blockInv_operation (h : BlockInv s) {i : Instr} (hi : formatOf i = .opsel) (hst : exec i s = .next t) : BlockInv t := by
  cases i with
  | lfsrAdvance => cases hst; exact h.of_units (h.units.after_lfsrAdvance _) rfl rfl id
  | lfsrSeed => cases hst; exact h.of_units h.units.after_lfsrSeed rfl rfl id
  | lfsrSave => cases hst; exact h.of_units h.units.after_lfsrSave rfl rfl id
  | dbTick raw => cases hst; exact h.of_units (h.units.after_dbTick raw) rfl rfl id
  | edgeSample => cases hst; exact h.of_units h.units.after_edgeSample rfl rfl id
  | tmrTick => cases hst; exact h.of_units h.units.after_tmrTick rfl rfl id
  | tmrReset => cases hst; exact h.of_units h.units.after_tmrReset rfl rfl id
  | tmrReached th => cases hst; exact h.of_units (h.units.after_setRet _) rfl rfl id
  | tmrPrepare r v =>
    cases hst
    exact h.of_units ((h.units.after_tmrPrepare r v).after_setRet r) (by cases r <;> rfl) (by cases r <;> rfl)
      (prepared_tmrPrepare r v)
  | tmrWaitFull | tmrWaitHalf => cases hst; exact h.of_units (h.units.after_tmrReset.after_setWait _) rfl rfl id
  | dispSet l r => cases hst; exact h.of_units (h.units.after_dispSet l r) rfl rfl id
  | dispRender idx => cases hst; exact h.of_units (h.units.after_dispRender _ idx) rfl rfl id
  | dispBlank => cases hst; exact h.of_units (h.units.after_dispBlank _) rfl rfl id
  | dispTick =>
    obtain ⟨-, rfl⟩ := dispTick_next hst
    exact h.of_units h.units.after_shipByte rfl rfl id
  | dispLatch => cases hst; exact h.of_units h.units.after_dispLatch rfl rfl id
  | dispDigits n =>
    obtain ⟨l, r, rfl⟩ := dispDigits_next hst
    exact h.of_units (h.units.after_dispSet l r) rfl rfl id
  | toneOn k => cases hst; exact h.of_units (h.units.after_toneOn _ k) rfl rfl id
  | toneOff => cases hst; exact h.of_units h.units.after_toneOff rfl rfl id
  | octInc | octDec => cases hst; exact h.of_units (h.units.after_setOct _) rfl rfl id
  | opPwmClk => cases hst; exact h.of_units (h.units.after_setWave _) rfl rfl id
  | keyPress k => cases hst; exact blockInv_keyPress h k
  | keyClear => cases hst; exact h.of_units (h.units.after_setKey _) rfl rfl id
  | _ => cases hi

/-- Settles O59, by the three kinds of step: the reset step, an agent's instruction, a bare operation. -/
theorem everyStepKeepsTheBlockInvariant : Obligations.EveryStepKeepsTheBlockInvariant := by
  intro s t h hst
  rcases step_cases hst with ⟨u, -, rfl⟩ | ⟨p, a, ls, n, -, hrun⟩ | ⟨bytes, i, ls, -, hdec, hrun⟩
  · exact blockInv_resetStep _ u
  · exact blockInv_agent (h.after_fetch ls n) p a hrun
  · exact blockInv_operation (h.after_fetch ls s.draws) (formatOf_of_decode_opsel hdec) hrun

end Sys2Proof.Safety
end

section
/-! PROOFS. The writers of every register, agent by agent (10_state R13). -/
namespace Sys2Proof.Safety

open Sys2Proof.Machine

variable {s t : State}

/-! ## The serial agent -/

/-- A character's step writes only the octave or only the serial key. -/
def WritesOctOrKey (s t : State) : Prop := t = { s with oct := t.oct } ∨ t = { s with key := t.key }

theorem WritesOctOrKey.refl (s : State) : WritesOctOrKey s s := .inl rfl

theorem writesOctOrKey_keyPress (i : LB) (s : State) : WritesOctOrKey s (keyPress i s) := by
  by_cases h : s.game.stage = .player
  · rw [keyPress_player i h]
    exact .inr rfl
  · rw [keyPress_other i h]
    exact .refl s

theorem writesOctOrKey_keyClear (s : State) : WritesOctOrKey s (keyClear s) := .inr rfl

theorem writesOctOrKey_octInc (s : State) : WritesOctOrKey s (octInc s) := .inl rfl

theorem writesOctOrKey_octDec (s : State) : WritesOctOrKey s (octDec s) := .inl rfl

theorem writesOctOrKey_rxCommand (c : Byte) (s : State) : WritesOctOrKey s (rxCommand c s) := by
  unfold rxCommand
  split
  case h_9 | h_10 => exact writesOctOrKey_octDec s
  case h_11 | h_12 => exact writesOctOrKey_octInc s
  case h_13 => exact writesOctOrKey_keyClear s
  all_goals exact writesOctOrKey_keyPress _ s

/-- An event whose handler answers `f`, taken or lost. -/
theorem WritesOctOrKey.of_takeEvent {f : State → State} (hf : WritesOctOrKey s (f s))
    (h : takeEvent (fun u => .next (f u)) s = .next t) : WritesOctOrKey s t := by
  rcases takeEvent_next h with ⟨-, hrun⟩ | ⟨-, rfl⟩
  · cases hrun
    exact hf
  · exact .refl t

theorem writesOctOrKey_of_rxchar {i : Instr} (hi : formatOf i = .rxchar) (h : exec i s = .next t) : WritesOctOrKey s t := by
  cases i with
  | rxDigit1 | rxQ | rxDigit2 | rxW | rxDigit3 | rxE | rxDigit4 | rxR => exact .of_takeEvent (writesOctOrKey_keyPress _ s) h
  | rxComma | rxK => exact .of_takeEvent (writesOctOrKey_octDec s) h
  | rxPeriod | rxL => exact .of_takeEvent (writesOctOrKey_octInc s) h
  | rxOther c => exact .of_takeEvent (writesOctOrKey_keyClear s) h
  | _ => cases hi

/-! ## The foreground -/

/-- What a foreground step other than `FG.BOOT` may write: every register left out here stays, `IE` among them. -/
structure ForegroundWrites (s t : State) : Prop where
  frame :
    t = { s with
      seq := t.seq, game := t.game, edge := t.edge, time := t.time, disp := t.disp, tone := t.tone,
      key := { s.key with keyp := t.key.keyp },
      strobes := { s.strobes with adcReq := t.strobes.adcReq, adcAck := t.strobes.adcAck }, wait := t.wait }
  keyp : t.key.keyp = true → s.key.keyp = true
  elapsed : t.time.elapsed = s.time.elapsed ∨ t.time.elapsed = 0

theorem ForegroundWrites.refl (s : State) : ForegroundWrites s s := ⟨rfl, id, .inl rfl⟩

theorem ForegroundWrites.ie (h : ForegroundWrites s t) : t.ie = s.ie := by
  have hie := congrArg State.ie h.frame
  exact hie

theorem foregroundWrites_pollWait (k : WaitKind) (s : State) : ForegroundWrites s (pollWait k s) := by
  rw [pollWait_eq]
  exact ⟨rfl, id, .inl rfl⟩

theorem foregroundWrites_microSimPrep (r : Bool) (v : Byte) (s : State) : ForegroundWrites s (microSimPrep r v s) := by
  cases r with
  | true =>
    rw [microSimPrep_ready, tmrPrepare_ready]
    exact ⟨rfl, id, .inl rfl⟩
  | false =>
    rw [microSimPrep_notReady, tmrPrepare_notReady]
    exact ⟨rfl, id, .inl rfl⟩

theorem foregroundWrites_microSimNext (P : Params) (s : State) : ForegroundWrites s (microSimNext P s) := by
  rcases microSimNext_cases P s with ⟨-, he⟩ | ⟨-, he⟩ <;> rw [he]
  · exact ⟨rfl, id, .inl rfl⟩
  · exact ⟨rfl, id, .inr rfl⟩

theorem foregroundWrites_microSimOnWait (P : Params) (s : State) : ForegroundWrites s (microSimOnWait P s) := by
  rcases microSimOnWait_cases P s with ⟨-, he⟩ | ⟨-, he⟩ <;> rw [he]
  · exact .refl s
  · exact ⟨rfl, id, .inr rfl⟩

theorem foregroundWrites_microSimOffWait (s : State) : ForegroundWrites s (microSimOffWait s) := by
  rcases microSimOffWait_cases s with ⟨-, he⟩ | ⟨-, he⟩ <;> rw [he]
  · exact .refl s
  · exact ⟨rfl, id, .inl rfl⟩

/-- A recognised press may take the pending key, never set one. -/
theorem foregroundWrites_microPlyWait (P : Params) (s : State) : ForegroundWrites s (microPlyWait P s) := by
  rcases microPlyWait_cases P s with ⟨-, he⟩ | ⟨i, -, he⟩ <;> rw [he]
  · exact ⟨rfl, id, .inl rfl⟩
  · rw [recognise_eq]
    refine ⟨rfl, fun hkey => ?_, .inr rfl⟩
    rw [goPhase_eq] at hkey
    dsimp only at hkey
    split at hkey
    · cases hkey
    · exact hkey

theorem foregroundWrites_microPlyHeld (P : Params) (i : LB) (s : State) : ForegroundWrites s (microPlyHeld P i s) := by
  rcases microPlyHeld_cases P i s with he | ⟨-, -, he⟩ <;> rw [he] <;> exact ⟨rfl, id, .inl rfl⟩

theorem foregroundWrites_microPlySub (P : Params) (s : State) : ForegroundWrites s (microPlySub P s) := by
  rcases microPlySub_cases P s with ⟨-, he⟩ | ⟨i, -, he⟩ <;> rw [he]
  · exact foregroundWrites_microPlyWait P s
  · exact foregroundWrites_microPlyHeld P i s

theorem foregroundWrites_microPlyPost (s : State) : ForegroundWrites s (microPlyPost s) := by
  rcases microPlyPost_cases s with ⟨-, he⟩ | ⟨-, he⟩ <;> rw [he] <;> exact ⟨rfl, id, .inl rfl⟩

theorem foregroundWrites_microSucWait (P : Params) (s : State) : ForegroundWrites s (microSucWait P s) := by
  rcases microSucWait_cases P s with ⟨-, he⟩ | ⟨-, he⟩ <;> rw [he]
  · exact .refl s
  · exact ⟨rfl, id, .inl rfl⟩

theorem foregroundWrites_microFailWait1 {P : Params} (h : microFailWait1 P s = .next t) : ForegroundWrites s t := by
  rcases microFailWait1_next h with ⟨-, rfl⟩ | ⟨-, u, hu, rfl⟩
  · exact .refl t
  · obtain ⟨l, r, rfl⟩ := dispDigits_next hu
    exact ⟨rfl, id, .inr rfl⟩

theorem foregroundWrites_microFailWait2 (P : Params) (s : State) : ForegroundWrites s (microFailWait2 P s) := by
  rcases microFailWait2_cases P s with ⟨-, he⟩ | ⟨-, he⟩ <;> rw [he]
  · exact .refl s
  · exact ⟨rfl, id, .inl rfl⟩

/-- Every micro-step but `FG.BOOT` keeps within the foreground's cells and leaves `IE`. -/
theorem foregroundWrites_microStep {P : Params} {r : Bool} {v : Byte} (hboot : s.game.fgPh ≠ .boot)
    (h : microStep P r v s = .next t) : ForegroundWrites s t := by
  unfold microStep at h
  cases hp : s.game.fgPh <;> rw [hp] at h
  case boot => exact absurd hp hboot
  case failWait1 => exact foregroundWrites_microFailWait1 h
  all_goals cases h
  case top | init | simDone => exact ⟨rfl, id, .inl rfl⟩
  case sucShow | failShow => exact ⟨rfl, id, .inr rfl⟩
  case simPrep => exact foregroundWrites_microSimPrep r v s
  case simNext => exact foregroundWrites_microSimNext P s
  case simOnWait => exact foregroundWrites_microSimOnWait P s
  case simOffWait => exact foregroundWrites_microSimOffWait s
  case plySub => exact foregroundWrites_microPlySub P s
  case plyPost => exact foregroundWrites_microPlyPost s
  case sucWait => exact foregroundWrites_microSucWait P s
  case failWait2 => exact foregroundWrites_microFailWait2 P s

/-- A foreground step is `FG.BOOT`, with no bare wait in progress, or keeps within the foreground's cells and leaves `IE`. -/
theorem foregroundStep_cases {P : Params} {r : Bool} {v : Byte} (h : foregroundStep P r v s = .next t) :
    (s.game.fgPh = .boot ∧ t = microBoot s) ∨ ForegroundWrites s t := by
  unfold foregroundStep at h
  split at h
  case h_1 k _ =>
    cases h
    exact .inr (foregroundWrites_pollWait k s)
  case h_2 =>
    by_cases hboot : s.game.fgPh = .boot
    · rw [microStep, hboot] at h
      exact .inl ⟨hboot, (Host.Outcome.next.inj h).symm⟩
    · exact .inr (foregroundWrites_microStep hboot h)

/-! ## One frame for each agent -/

theorem execEvT1_frame (h : exec .evT1 s = .next t) : t = { s with time := { s.time with elapsed := t.time.elapsed } } := by
  rcases takeEvent_next h with ⟨-, hrun⟩ | ⟨-, rfl⟩
  · cases hrun
    rfl
  · rfl

theorem execEvT5_frame {raw : Byte} (h : exec (.evT5 raw) s = .next t) :
    t = { s with deb := t.deb, mux := t.mux, strobes := { s.strobes with spiStart := t.strobes.spiStart } } := by
  rcases takeEvent_next h with ⟨-, hrun⟩ | ⟨-, rfl⟩
  · obtain ⟨-, rfl⟩ := dispTick_next hrun
    rfl
  · rfl

theorem execEvXd_frame (h : exec .evXd s = .next t) :
    t = { s with
      mux := { s.mux with xferBusy := t.mux.xferBusy }, panel := t.panel,
      strobes := { s.strobes with dispLatch := t.strobes.dispLatch } } ∧
    (t.mux.xferBusy = true → s.mux.xferBusy = true) := by
  rcases takeEvent_next h with ⟨-, hrun⟩ | ⟨-, rfl⟩
  · cases hrun
    exact ⟨rfl, nofun⟩
  · exact ⟨rfl, id⟩

theorem execSerial_frame {i : Instr} (hi : formatOf i = .rxchar ∨ ∃ c, i = .evRx c) (h : exec i s = .next t) :
    WritesOctOrKey s t := by
  rcases hi with hchar | ⟨c, rfl⟩
  · exact writesOctOrKey_of_rxchar hchar h
  · exact .of_takeEvent (writesOctOrKey_rxCommand c s) h

theorem execFgStep_frame {r : Bool} {v : Byte} (h : exec (.fgStep r v) s = .next t) :
    t = { s with
      seq := t.seq, game := t.game, edge := t.edge, time := t.time, disp := t.disp, tone := t.tone,
      key := { s.key with keyp := t.key.keyp }, ie := t.ie,
      strobes := { s.strobes with adcReq := t.strobes.adcReq, adcAck := t.strobes.adcAck }, wait := t.wait } ∧
    (t.key.keyp = true → s.key.keyp = true) ∧
    (s.game.fgPh ≠ .boot → t.ie = s.ie) ∧ (s.ie = true → t.ie = true) ∧
    (t.time.elapsed = s.time.elapsed ∨ t.time.elapsed = 0) := by
  rcases foregroundStep_cases h with ⟨hboot, rfl⟩ | hw
  · exact ⟨rfl, id, fun hne => absurd hboot hne, fun _ => rfl, .inl rfl⟩
  · have hie : t.ie = s.ie := hw.ie
    refine ⟨?_, hw.keyp, fun _ => hie, fun hs => hie.trans hs, hw.elapsed⟩
    rw [hie]
    exact hw.frame

theorem execEvPwmClk_frame (h : exec .evPwmClk s = .next t) : t = { s with wave := t.wave } := by
  cases h
  rfl

/-- Settles O53: the frames of the six agents side by side. -/
theorem everyAgentWritesOnlyItsCells : Obligations.EveryAgentWritesOnlyItsCells :=
  ⟨fun _ _ => execEvT1_frame, fun _ _ _ => execEvT5_frame, fun _ _ => execEvXd_frame, fun _ _ _ => execSerial_frame,
    fun _ _ _ _ => execFgStep_frame, fun _ _ => execEvPwmClk_frame⟩

end Sys2Proof.Safety
end

section
/-! PROOFS. Steps of different handlers may be swapped (20_memory R51): their handlers write cells the other neither reads nor
writes, so the one commutes with the other, and so do the gated events. -/
namespace Sys2Proof.Safety

open Sys2Proof.Machine

/-! ## Two instructions in a chain -/

@[simp] theorem andThen_next (t : State) (f : State → Answer) : andThen (.next t) f = f t := rfl

@[simp] theorem andThen_next_right (a : Answer) : andThen a .next = a := by cases a <;> rfl

theorem execAll_pair (i j : Instr) (s : State) : execAll [i, j] s = andThen (exec i s) (exec j) := by
  have hj : execAll [j] = exec j := funext fun t => andThen_next_right (exec j t)
  rw [execAll, hj]

/-! ## Gated events -/

/-- A handler leaves `IE` alone. -/
def KeepsIe (h : State → Answer) : Prop := ∀ s t, h s = .next t → t.ie = s.ie

/-- The operation `f` run before the handler `h` only shows in `h`'s answer as `f` run after it, a fault included. -/
def Independent (f : State → State) (h : State → Answer) : Prop := ∀ s, h (f s) = onNext (h s) f

/-- Events of independent handlers may be swapped: both see the same `IE`. -/
theorem takeEvent_swap {f : State → State} {h : State → Answer} (hf : ∀ s, (f s).ie = s.ie) (hh : KeepsIe h)
    (hind : Independent f h) (s : State) :
    andThen (takeEvent (fun u => .next (f u)) s) (takeEvent h) = andThen (takeEvent h s) (takeEvent fun u => .next (f u)) := by
  cases hie : s.ie with
  | false => simp only [takeEvent_disabled _ hie, andThen_next]
  | true =>
    rw [takeEvent_enabled _ hie, takeEvent_enabled _ hie, andThen_next, takeEvent_enabled _ ((hf s).trans hie), hind s]
    cases ht : h s with
    | next t => rw [andThen_next, takeEvent_enabled _ ((hh s t ht).trans hie)]; rfl
    | fault r => rfl
    | refused r => rfl

/-! ## The handlers -/

/-- A character's command reads the stage beside the key and the octave it writes. -/
theorem rxCommand_writes (c : Byte) :
    ∃ (k : Stage → Key → Key) (o : Octave → Octave), ∀ s,
      rxCommand c s = { s with key := k s.game.stage s.key, oct := o s.oct } := by
  have press (i : LB) (s : State) :
      keyPress i s = { s with key := if s.game.stage = .player then ⟨true, i⟩ else s.key } := by
    by_cases h : s.game.stage = .player
    · rw [keyPress_player i h, if_pos h]
    · rw [keyPress_other i h, if_neg h]
  unfold rxCommand
  split
  case h_9 | h_10 => exact ⟨fun _ key => key, octaveDown, octDec_eq⟩
  case h_11 | h_12 => exact ⟨fun _ key => key, octaveUp, octInc_eq⟩
  case h_13 => exact ⟨fun _ key => { key with keyp := false }, id, keyClear_eq⟩
  all_goals exact ⟨fun stage key => if stage = .player then ⟨true, _⟩ else key, id, press _⟩

theorem rxCommand_ie (c : Byte) (s : State) : (rxCommand c s).ie = s.ie := by
  obtain ⟨k, o, he⟩ := rxCommand_eq c s
  rw [he]

theorem keepsIe_handleT5 (P : Params) (raw : Byte) : KeepsIe (handleT5 P raw) := by
  intro s t h
  obtain ⟨-, rfl⟩ := dispTick_next h
  rfl

theorem keepsIe_handleXd : KeepsIe handleXd := by
  intro s t h
  cases h
  rfl

theorem keepsIe_handleRx (c : Byte) : KeepsIe (handleRx c) := by
  intro s t h
  cases h
  exact rxCommand_ie c s

/-- The 5 ms tick is independent of what commutes with its two operations and leaves its fault's condition alone. -/
theorem independent_handleT5 {f : State → State} {P : Params} {raw : Byte}
    (hbusy : ∀ s, (f s).mux.xferBusy = s.mux.xferBusy) (hdb : Function.Commute f (dbTick P raw))
    (hship : Function.Commute f shipByte) : Independent f (handleT5 P raw) := by
  intro s
  unfold handleT5
  rw [← hdb s]
  cases hb : (dbTick P raw s).mux.xferBusy with
  | true => rw [dispTick_busy hb, dispTick_busy ((hbusy _).trans hb)]; rfl
  | false => rw [dispTick_idle hb, dispTick_idle ((hbusy _).trans hb), ← hship]; rfl

theorem independent_tmrTick_handleT5 (P : Params) (raw : Byte) : Independent tmrTick (handleT5 P raw) :=
  independent_handleT5 (fun _ => rfl) (fun _ => rfl) (fun _ => rfl)

theorem independent_tmrTick_handleXd : Independent tmrTick handleXd := fun _ => rfl

theorem independent_tmrTick_handleRx (c : Byte) : Independent tmrTick (handleRx c) := by
  obtain ⟨k, o, he⟩ := rxCommand_writes c
  intro s
  simp only [handleRx, onNext, he]
  rfl

theorem independent_rxCommand_handleT5 (c : Byte) (P : Params) (raw : Byte) : Independent (rxCommand c) (handleT5 P raw) := by
  obtain ⟨k, o, he⟩ := rxCommand_writes c
  refine independent_handleT5 (fun s => ?_) (fun s => ?_) (fun s => ?_) <;> simp only [he] <;> rfl

theorem independent_rxCommand_handleXd (c : Byte) : Independent (rxCommand c) handleXd := by
  obtain ⟨k, o, he⟩ := rxCommand_writes c
  intro s
  simp only [handleXd, onNext, he]
  rfl

/-! ## The five pairs -/

/-- The 1 ms tick beside a handler independent of it. -/
theorem evT1_swap {h : State → Answer} {i : Instr} (hi : exec i = takeEvent h) (hh : KeepsIe h)
    (hind : Independent tmrTick h) (s : State) : execAll [.evT1, i] s = execAll [i, .evT1] s := by
  rw [execAll_pair, execAll_pair, hi]
  exact takeEvent_swap (f := tmrTick) (fun _ => rfl) hh hind s

/-- A character beside a handler independent of its command. -/
theorem evRx_swap {c : Byte} {h : State → Answer} {i : Instr} (hi : exec i = takeEvent h) (hh : KeepsIe h)
    (hind : Independent (rxCommand c) h) (s : State) : execAll [i, .evRx c] s = execAll [.evRx c, i] s := by
  rw [execAll_pair, execAll_pair, hi]
  exact (takeEvent_swap (rxCommand_ie c) hh hind s).symm

/-- Settles O54: one of each pair is the 1 ms tick or a character, and the other's handler is independent of it. -/
theorem handlersCommute : Obligations.HandlersCommute := by
  intro raw c x s hx
  simp only [List.mem_cons, List.not_mem_nil, or_false] at hx
  rcases hx with rfl | rfl | rfl | rfl | rfl
  · exact evT1_swap rfl (keepsIe_handleT5 _ raw) (independent_tmrTick_handleT5 _ raw) s
  · exact evT1_swap rfl keepsIe_handleXd independent_tmrTick_handleXd s
  · exact evT1_swap rfl (keepsIe_handleRx c) (independent_tmrTick_handleRx c) s
  · exact evRx_swap rfl (keepsIe_handleT5 _ raw) (independent_rxCommand_handleT5 c _ raw) s
  · exact evRx_swap rfl keepsIe_handleXd (independent_rxCommand_handleXd c) s

end Sys2Proof.Safety
end

section
/-! PROOFS. Decoding of encoded instructions (30_encoding R55 to R71): the operand readers take back the operand bytes the encoder
writes, the characters are matched exactly, and every instruction's bytes read back as the instruction. -/
namespace Sys2Proof

/-! ## The operand readers on encoded operands -/

theorem bitOperand_bitByte (b : Bool) : bitOperand (bitByte b) = .ok b := by
  cases b <;> rfl

theorem adcOperands_bitByte (mk : Bool → Byte → Instr) (r : Bool) (v : Byte) (rest : List Byte) :
    adcOperands mk (bitByte r :: v :: rest) = .ok (mk r v) := by
  rw [adcOperands, bitOperand_bitByte]

theorem lbOperand_setWidth (mk : LB → Instr) (k : LB) (rest : List Byte) :
    lbOperand mk (k.setWidth 8 :: rest) = .ok (mk k) := by
  have hk : (k.setWidth 8 : Byte).toNat < 4 := by rw [BitVec.toNat_setWidth_of_le (by decide)]; exact k.isLt
  rw [lbOperand, if_pos hk, BitVec.setWidth_setWidth_of_le k (by decide), BitVec.setWidth_eq]

theorem barOperand_setWidth (mk : BarIdx → Instr) (idx : BarIdx) (rest : List Byte) :
    barOperand mk (idx.setWidth 8 :: rest) = .ok (mk idx) := by
  have hidx : (idx.setWidth 8 : Byte).toNat < 8 := by rw [BitVec.toNat_setWidth_of_le (by decide)]; exact idx.isLt
  rw [barOperand, if_pos hidx, BitVec.setWidth_setWidth_of_le idx (by decide), BitVec.setWidth_eq]

theorem segOperands_setWidth (mk : Seg → Seg → Instr) (l r : Seg) (rest : List Byte) :
    segOperands mk (l.setWidth 8 :: r.setWidth 8 :: rest) = .ok (mk l r) := by
  simp [segOperands]

theorem halfOperand_extractLsb' (mk : Half → Instr) (th : Half) (rest : List Byte) :
    halfOperand mk (th.extractLsb' 0 8 :: th.extractLsb' 8 8 :: rest) = .ok (mk th) := by
  have hth : (th.extractLsb' 8 8 ++ th.extractLsb' 0 8 : Half) = th := by
    rw [BitVec.extractLsb'_append_extractLsb'_eq_extractLsb' (rfl : 8 = 0 + 8), BitVec.extractLsb'_eq_self]
  rw [halfOperand, hth]

/-! ## Characters -/

/-- Every code but the twelve command characters is the default row (R56). -/
theorem decodeRxChar_other {c : Byte} (hc : c ∉ commandChars) : decodeRxChar c = .rxOther c := by
  simp only [commandChars, List.mem_cons, List.not_mem_nil, BitVec.toNat_eq, not_or] at hc
  unfold decodeRxChar
  split
  case h_13 => rfl
  all_goals simp_all

theorem wellFormed_rxOther {c : Byte} : (Instr.rxOther c).WellFormed ↔ c ∉ commandChars := by
  rw [Instr.WellFormed, Instr.wf, isCommandChar, Bool.not_eq_true', List.contains_eq_mem, decide_eq_false_iff_not]

/-! ## Phase words -/

theorem fgphWord_toNat (ph : BitVec 5) (sss : BitVec 3) : (ph ++ sss : Byte).toNat = 8 * ph.toNat + sss.toNat := by
  rw [BitVec.toNat_append, ← Nat.shiftLeft_add_eq_or_of_lt sss.isLt, Nat.shiftLeft_eq]
  omega

theorem fgphWord_div (ph : BitVec 5) (sss : BitVec 3) : (ph ++ sss : Byte).toNat / 8 = ph.toNat := by
  rw [fgphWord_toNat]
  omega

theorem fgphWord_mod (ph : BitVec 5) (sss : BitVec 3) : (ph ++ sss : Byte).toNat % 8 = sss.toNat := by
  rw [fgphWord_toNat]
  omega

theorem fgphWord_wide (ph : BitVec 5) (sss : BitVec 3) : (ph ++ sss : Byte).toNat ≥ 0x80 ↔ 16 ≤ ph.toNat := by
  rw [fgphWord_toNat]
  omega

/-- `SLOT` counts only in phase `PLY_SUB` (R59). -/
theorem decodeFgph_slot_irrelevant {ph : BitVec 5} (hph : ph ≠ 0b01000) (sss : BitVec 3) (ops : List Byte) :
    decodeFgph (ph ++ sss) ops = decodeFgph (ph ++ 0#3) ops := by
  have h8 : ph.toNat ≠ 8 := fun h => hph (BitVec.eq_of_toNat_eq h)
  simp only [decodeFgph, fgphWord_wide, fgphWord_div, fgphWord_mod]
  generalize ph.toNat = n at *
  by_cases hn : 16 ≤ n
  · rw [if_pos hn, if_pos hn]
  · rw [if_neg hn, if_neg hn]
    split
    case h_9 | h_10 | h_11 | h_12 | h_13 | h_14 => exact absurd rfl h8
    case h_21 => simp_all
    all_goals rfl

theorem decodeFgph_simPrep (sss : BitVec 3) (ops : List Byte) :
    decodeFgph (0b00011#5 ++ sss) ops = adcOperands .fgSimPrep ops := by
  simp [decodeFgph, fgphWord_div, fgphWord_wide]

theorem decodeFgph_reservedSlot {sss : BitVec 3} (hsss : 5 ≤ sss.toNat) (ops : List Byte) :
    decodeFgph (0b01000#5 ++ sss) ops = .error .reservedSlot := by
  simp only [decodeFgph, fgphWord_wide, fgphWord_div, fgphWord_mod]
  generalize sss.toNat = n at *
  rw [if_neg (by decide)]
  split
  case h_14 => rfl
  all_goals simp_all

/-! ## Instructions -/

/-- Settles O6. Each code selects the row of its instruction, so what is left is that the row's operand reader takes back the
operand bytes; a well-formed default row of `RXCHAR` holds no command character. -/
theorem decodeOfEncodeIsTheInstruction : Obligations.DecodeOfEncodeIsTheInstruction := by
  intro i rest hi
  cases i with
  | rxOther c => exact congrArg Except.ok (decodeRxChar_other (wellFormed_rxOther.1 hi))
  | fgStep r v | tmrPrepare r v => exact adcOperands_bitByte _ r v rest
  | fgSimPrep r v => exact (decodeFgph_simPrep 0 _).trans (adcOperands_bitByte _ r v rest)
  | tmrReached th => exact halfOperand_extractLsb' _ th rest
  | dispSet l r => exact segOperands_setWidth _ l r rest
  | dispRender idx => exact barOperand_setWidth _ idx rest
  | toneOn k | keyPress k => exact lbOperand_setWidth _ k rest
  | dispBlank => exact barOperand_setWidth _ 4 rest
  | _ => rfl

/-! ## The tables of the formats -/

/-- An instruction's bytes by themselves are a row of its format's table. -/
theorem decode_encodeBytes (i : Instr) (hi : i.WellFormed) : decode (formatOf i) (encodeBytes i) = .ok i.expand := by
  have hrow := decodeOfEncodeIsTheInstruction i [] hi
  rwa [List.append_nil] at hrow

/-- Settles O1: the twelve command characters are rows of the table, and every other code is the default row. -/
theorem rxCharactersDecodeExactly : Obligations.RxCharactersDecodeExactly := by
  intro c
  rw [decode]
  by_cases hc : c ∈ commandChars
  · simp only [commandChars, List.mem_cons, List.not_mem_nil, or_false] at hc
    rcases hc with rfl | rfl | rfl | rfl | rfl | rfl | rfl | rfl | rfl | rfl | rfl | rfl <;> rfl
  · rw [decodeRxChar_other hc]
    simp only [commandChars, List.mem_cons, List.not_mem_nil, or_false, not_or] at hc
    simp only [hc, if_false]

/-- An `EV` code that is no one-strobe vector has several strobes (R69). -/
theorem decodeEvent_severalStrobes {code : BitVec 5} (ops : List Byte)
    (hcode : code ∉ [0b00000, 0b00001, 0b00010, 0b00100, 0b01000, 0b10000]) :
    decodeEvent (code.setWidth 8) ops = .error .severalStrobes := by
  simp only [List.mem_cons, List.not_mem_nil, BitVec.toNat_eq, or_false, not_or] at hcode
  rw [decodeEvent, BitVec.toNat_setWidth_of_le (by decide)]
  split
  case h_7 => exact if_pos code.isLt
  all_goals simp_all

/-- Settles O2: a one-strobe vector is the encoding of its agent's instruction. -/
theorem eventVectorsDecode : Obligations.EventVectorsDecode := by
  refine ⟨fun r d => ?_, fun code ops hcode => decodeEvent_severalStrobes ops hcode⟩
  have row := decode_encodeBytes
  exact ⟨row (.fgStep r d) rfl, row .evT1 rfl, row (.evT5 d) rfl, row .evXd rfl, row (.evRx d) rfl, row .evPwmClk rfl⟩

/-- Settles O3: outside `PLY_SUB` the slot's bits are irrelevant, so each word reads as the one with slot 0. -/
theorem phaseWordsDecode : Obligations.PhaseWordsDecode := by
  intro sss r d
  have row {ph : BitVec 5} {a : Decoded} (hph : ph ≠ 0b01000) (h : decodeFgph (ph ++ 0#3) [] = a) :
      decode .fgph [ph ++ sss] = a := (decodeFgph_slot_irrelevant hph sss []).trans h
  refine ⟨row (by decide) rfl, row (by decide) rfl, row (by decide) rfl, ?simPrep, row (by decide) rfl,
    row (by decide) rfl, row (by decide) rfl, row (by decide) rfl, ?plySub, row (by decide) rfl,
    row (by decide) rfl, row (by decide) rfl, row (by decide) rfl, row (by decide) rfl, row (by decide) rfl,
    row (by decide) rfl⟩
  case simPrep => exact (decodeFgph_simPrep sss _).trans (adcOperands_bitByte _ r d [])
  case plySub =>
    split_ifs
    case neg => exact decodeFgph_reservedSlot (by bv_omega) []
    all_goals subst sss; rfl

/-- `OPSEL` 23 to 31: no such operation (R69). -/
theorem decodeOpsel_reservedOperation {code : BitVec 5} (hcode : 23 ≤ code.toNat) (ops : List Byte) :
    decodeOpsel (code.setWidth 8) ops = .error .reservedOperation := by
  rw [decodeOpsel, BitVec.toNat_setWidth_of_le (by decide)]
  split
  case h_24 => exact if_pos code.isLt
  all_goals omega

/-- Settles O4: an index with its operand bytes is the encoding of its operation. -/
theorem operationIndicesDecode : Obligations.OperationIndicesDecode := by
  refine ⟨fun r d th x y idx i => ?_, fun code ops hcode => decodeOpsel_reservedOperation hcode ops⟩
  have row := decode_encodeBytes
  exact ⟨row .lfsrAdvance rfl, row .lfsrSeed rfl, row .lfsrSave rfl, row (.dbTick d) rfl, row .edgeSample rfl,
    row .tmrTick rfl, row .tmrReset rfl, row (.tmrReached th) rfl, row (.tmrPrepare r d) rfl, row .tmrWaitFull rfl,
    row .tmrWaitHalf rfl, row (.dispSet x y) rfl, row (.dispRender idx) rfl, row .dispTick rfl, row .dispLatch rfl,
    row (.dispDigits d) rfl, row (.toneOn i) rfl, row .toneOff rfl, row .octInc rfl, row .octDec rfl,
    row .opPwmClk rfl, row (.keyPress i) rfl, row .keyClear rfl⟩

end Sys2Proof
end

section
/-! PROOFS. What a fetch selects and what a step runs (30_encoding R66, R70): the fetched instruction, a bare operation's line, the
one agent that presented ports select, and the agent a `STIM` word names. -/
namespace Sys2Proof.Machine

open Sys2Proof.Safety

variable {s u : State} {p : InPorts} {a : Agent} {rest : List Line}

/-! ## The fetch of a line and the step on what was fetched -/

theorem fetch_ports (hs : s.trace = .ports p :: rest) : fetch s = present p (afterLine s rest) := by
  unfold fetch
  rw [hs]
  rfl

theorem fetch_op {bytes : List Byte} (hs : s.trace = .op bytes :: rest) :
    fetch s = .code .opsel bytes (afterLine s rest) := by
  unfold fetch
  rw [hs]
  rfl

/-- The state an instruction runs in differs from the one before only in the lines, the counter and the strobes. -/
theorem fetch_code_state {f : Format} {bytes : List Byte} (hs : fetch s = .code f bytes u) :
    u = { s with trace := u.trace, draws := u.draws, strobes := .low } := by
  rcases fetch_cases s with ⟨ls, n, h⟩ | ⟨q, b, ls, n, h⟩ | ⟨bs, ls, -, h⟩ <;> rw [h] at hs <;> cases hs <;> rfl

theorem step_of_decode_ok {f : Format} {bytes : List Byte} {i : Instr} (hs : fetch s = .code f bytes u)
    (hi : decode f bytes = .ok i) : step s = exec i u := by
  rw [step, hs, runFetched, hi]

theorem step_of_decode_error {f : Format} {bytes : List Byte} {e : DecodeError} (hs : fetch s = .code f bytes u)
    (he : decode f bytes = .error e) : step s = .refused (.noInstruction e) := by
  rw [step, hs, runFetched, he]

/-- Settles O7: the step runs what the decoder answers for the fetched bytes, or refuses with its reason. -/
theorem stepRunsTheDecodedInstruction : Obligations.StepRunsTheDecodedInstruction :=
  ⟨fun _ _ _ _ _ hf hi => ⟨step_of_decode_ok hf hi, fetch_code_state hf⟩,
    fun _ _ _ hs => ⟨fun _ hi => step_of_decode_ok (fetch_op hs) hi, fun _ he => step_of_decode_error (fetch_op hs) he⟩⟩

/-! ## The presented agent -/

/-- The ports select one agent's step: the foreground's with no strobe, else that of the one strobe (30_encoding R66). -/
def Selects (p : InPorts) (a : Agent) : Prop := p.agents = [] ∧ a = .fg ∨ p.agents = [a]

theorem present_selects (hrst : p.rst = false) (hp : Selects p a) (s : State) :
    present p s = .code .event (eventBytes p a) s := by
  rcases hp with ⟨hp, rfl⟩ | hp <;> simp [present, hrst, hp]

/-- A line that selects one agent makes the next step run that agent's instruction. -/
theorem step_of_selects (hs : s.trace = .ports p :: rest) (hrst : p.rst = false) (hp : Selects p a) :
    step s = exec (agentInstr p a) (afterLine s rest) :=
  step_of_decode_ok ((fetch_ports hs).trans (present_selects hrst hp _)) (decode_eventBytes p a)

/-- Settles O8: either way the line selects one agent. -/
theorem stepTakesThePresentedAgent : Obligations.StepTakesThePresentedAgent :=
  fun _ _ _ hs hrst =>
    ⟨fun hp => step_of_selects hs hrst (.inl ⟨hp, rfl⟩), fun _ hp => step_of_selects hs hrst (.inr hp)⟩

/-! ## Stimulus words -/

theorem stimWord_getLsbD (ev : BitVec 5) (r : Bool) (d : Byte) (k : Nat) :
    (stimWord ev r d).getLsbD k = if k < 8 then d.getLsbD k else if k = 8 then r else ev.getLsbD (k - 9) := by
  have happ : (stimWord ev r d).getLsbD k = (ev ++ (BitVec.ofBool r ++ d) : BitVec (5 + (1 + 8))).getLsbD k := rfl
  rw [happ, BitVec.getLsbD_append, BitVec.getLsbD_append, BitVec.getLsbD_ofBool]
  grind

@[simp] theorem stimEvent_stimWord (ev : BitVec 5) (r : Bool) (d : Byte) : stimEvent (stimWord ev r d) = ev := by
  ext k hk
  have h8 : ¬ 9 + k < 8 := by omega
  have h9 : 9 + k ≠ 8 := by omega
  simp [stimEvent, stimWord_getLsbD, BitVec.getLsbD_eq_getElem hk, h8, h9]

@[simp] theorem stimReady_stimWord (ev : BitVec 5) (r : Bool) (d : Byte) : stimReady (stimWord ev r d) = r := by
  rw [stimReady, stimWord_getLsbD, if_neg (by decide), if_pos rfl]

@[simp] theorem stimData_stimWord (ev : BitVec 5) (r : Bool) (d : Byte) : stimData (stimWord ev r d) = d := by
  ext k hk
  simp [stimData, stimWord_getLsbD, hk]

/-- `DATA` may be put into a word whose `DATA` is 0 by a bitwise or, as the table of R70 writes it. -/
theorem stimWord_zero_or (ev : BitVec 5) (r : Bool) (d : Byte) : stimWord ev r 0 ||| d.setWidth 14 = stimWord ev r d := by
  apply BitVec.eq_of_getLsbD_eq
  intro k hk
  rw [BitVec.getLsbD_or, BitVec.getLsbD_setWidth, stimWord_getLsbD, stimWord_getLsbD]
  by_cases h8 : k < 8
  · simp [h8, hk]
  · simp [h8, BitVec.getLsbD_of_ge d k (Nat.not_lt.1 h8)]

/-- A word's bytes, low byte first, make the word again; the high byte has no bit above it. -/
theorem decode_stim_bytes (w : BitVec 14) (rest : List Byte) :
    decode .stim (w.extractLsb' 0 8 :: (w.extractLsb' 8 6).setWidth 8 :: rest) = decodeStim w := by
  have hhi : ((w.extractLsb' 8 6).setWidth 8 : Byte).toNat < 64 := by
    rw [BitVec.toNat_setWidth_of_le (by decide)]
    exact (w.extractLsb' 8 6).isLt
  have hw : (((w.extractLsb' 8 6).setWidth 8).setWidth 6 ++ w.extractLsb' 0 8 : BitVec 14) = w := by
    rw [BitVec.setWidth_setWidth_of_le _ (by decide), BitVec.setWidth_eq,
      BitVec.extractLsb'_append_extractLsb'_eq_extractLsb' (rfl : 8 = 0 + 8), BitVec.extractLsb'_eq_self]
  rw [decode, if_pos hhi, hw]

theorem decode_stim_bitsAboveFormat {lo hi : Byte} (hhi : 64 ≤ hi.toNat) (rest : List Byte) :
    decode .stim (lo :: hi :: rest) = .error .bitsAboveFormat := by
  rw [decode, if_neg (Nat.not_lt.2 hhi)]

variable {w : BitVec 14} {i : Instr}

/-- A word with one agent's strobes decodes to that agent's instruction on the ports the word presents. -/
theorem decodeStim_of_stimEvent (hw : stimEvent w = a.eventCode) : decodeStim w = .ok (agentInstr (portsOfStim w) a) := by
  rw [decodeStim, hw]
  cases a <;> rfl

/-- A word with one agent's strobes presents that agent. -/
theorem portsOfStim_selects (hw : stimEvent w = a.eventCode) : Selects (portsOfStim w) a := by
  rw [Selects, InPorts.agents]
  simp only [portsOfStim, hw]
  cases a <;> decide

/-- The instruction a word stands for is the one of the agent whose strobes it sets. -/
theorem encodeStim_some (hi : encodeStim i = some w) :
    ∃ a, stimEvent w = a.eventCode ∧ agentInstr (portsOfStim w) a = i := by
  cases i with
  | fgStep r v => cases hi; exact ⟨.fg, by simp [agentInstr, portsOfStim, Agent.eventCode]⟩
  | evT1 => cases hi; exact ⟨.t1, by simp [agentInstr, Agent.eventCode]⟩
  | evT5 raw => cases hi; exact ⟨.t5, by simp [agentInstr, portsOfStim, Agent.eventCode]⟩
  | evXd => cases hi; exact ⟨.xd, by simp [agentInstr, Agent.eventCode]⟩
  | evRx c => cases hi; exact ⟨.rx, by simp [agentInstr, portsOfStim, Agent.eventCode]⟩
  | evPwmClk => cases hi; exact ⟨.pc, by simp [agentInstr, Agent.eventCode]⟩
  | _ => cases hi

theorem decodeStim_of_encodeStim (hi : encodeStim i = some w) : decodeStim w = .ok i := by
  obtain ⟨a, hw, rfl⟩ := encodeStim_some hi
  exact decodeStim_of_stimEvent hw

/-- Settles O5: a word of R70 sets the strobes of one agent, and the ports it presents select the same agent. -/
theorem stimulusWordsDecodeAndRun : Obligations.StimulusWordsDecodeAndRun := by
  refine ⟨fun d => ?words, decode_stim_bytes, fun _ _ rest hhi => decode_stim_bitsAboveFormat hhi rest, ?run⟩
  case words =>
    have word (i : Instr) {w : BitVec 14} (hi : encodeStim i = some w) := decodeStim_of_encodeStim hi
    exact ⟨word (.fgStep false 0) rfl, word (.fgStep true d) (congrArg some (stimWord_zero_or 0b00000 true d).symm),
      word .evT1 rfl, word (.evT5 d) (congrArg some (stimWord_zero_or 0b00010 false d).symm), word .evXd rfl,
      word (.evRx d) (congrArg some (stimWord_zero_or 0b01000 false d).symm), word .evPwmClk rfl⟩
  case run =>
    intro i w s rest hi hs
    obtain ⟨a, hw, rfl⟩ := encodeStim_some hi
    exact ⟨decodeStim_of_stimEvent hw, step_of_selects hs rfl (portsOfStim_selects hw)⟩

end Sys2Proof.Machine
end

section
/-! PROOFS. The sequence generator (40_sequence_generator R72 to R75): its operations' arms, and its registers after a run of
advances as a function of the state and the resume seed the run starts from. -/
namespace Sys2Proof.Machine

open Sys2Proof.Safety

/-! ## The three operations -/

theorem exec_lfsrAdvance (s : State) : exec .lfsrAdvance s = .next (lfsrAdvance Config.params s) := rfl

theorem exec_lfsrSeed (s : State) : exec .lfsrSeed s = .next (lfsrSeed s) := rfl

theorem exec_lfsrSave (s : State) : exec .lfsrSave s = .next (lfsrSave s) := rfl

/-- Settles O20: the new state is the generator's next one under the build's mask. -/
theorem generatorAdvance : Obligations.GeneratorAdvance :=
  fun s => ⟨lfsrNext Config.params.lfsrMask s.seq.lfsrState, rfl, by
    rw [exec_lfsrAdvance, lfsrAdvance_eq]; rfl⟩

/-- Settles O21. -/
theorem generatorSeedAndSave : Obligations.GeneratorSeedAndSave :=
  fun s => ⟨by rw [exec_lfsrSeed, lfsrSeed_eq], by rw [exec_lfsrSave, lfsrSave_eq]⟩

/-! ## A run of advances -/

theorem advanced_lfsrNext (mask : Word) (k : Nat) (x : Word) :
    advanced mask k (lfsrNext mask x) = advanced mask (k + 1) x := by
  induction k with
  | zero => rfl
  | succ k ih => exact congrArg (lfsrNext mask) ih

/-- The generator's registers after `k + 1` advances from the state `x`, with the resume seed `r`: nothing else of the registers
before the run is left. -/
def seqAfter (mask : Word) (k : Nat) (r x : Word) : Seq where
  lfsrState := advanced mask (k + 1) x
  reInit := r
  stepVal := stepOf (advanced mask (k + 1) x)
  result := resultBit (advanced mask k x)

theorem lfsrAdvance_eq_seqAfter (P : Params) (s : State) :
    lfsrAdvance P s = s.setSeq (seqAfter P.lfsrMask 0 s.seq.reInit s.seq.lfsrState) := rfl

theorem seqAfter_lfsrNext (mask : Word) (k : Nat) (r x : Word) :
    seqAfter mask k r (lfsrNext mask x) = seqAfter mask (k + 1) r x := by
  simp only [seqAfter, advanced_lfsrNext]

/-- The run completes; the first advance gives the registers, and each later one continues from the state it left. -/
theorem execAll_lfsrAdvances (k : Nat) (s : State) :
    execAll (List.replicate (k + 1) .lfsrAdvance) s =
      .next (s.setSeq (seqAfter Config.params.lfsrMask k s.seq.reInit s.seq.lfsrState)) := by
  induction k generalizing s with
  | zero => rw [← lfsrAdvance_eq_seqAfter, ← exec_lfsrAdvance]; rfl
  | succ k ih =>
    calc execAll (List.replicate (k + 2) .lfsrAdvance) s
      _ = execAll (List.replicate (k + 1) .lfsrAdvance) (lfsrAdvance Config.params s) := rfl
      _ = .next (s.setSeq (seqAfter Config.params.lfsrMask k s.seq.reInit
            (lfsrNext Config.params.lfsrMask s.seq.lfsrState))) := ih _
      _ = _ := by rw [seqAfter_lfsrNext]

/-- After `LFSR.SEED` the run starts from the resume seed. -/
theorem execAll_lfsrSeed_advances (k : Nat) (s : State) :
    execAll (.lfsrSeed :: List.replicate (k + 1) .lfsrAdvance) s =
      .next (s.setSeq (seqAfter Config.params.lfsrMask k s.seq.reInit s.seq.reInit)) :=
  execAll_lfsrAdvances k (lfsrSeed s)

/-- Settles O22: the registers after the run depend on the resume seed alone. -/
theorem reseededGeneratorRepeats : Obligations.ReseededGeneratorRepeats := by
  intro s1 s2 k hseed
  refine ⟨_, _, execAll_lfsrSeed_advances k s1, execAll_lfsrSeed_advances k s2, ?_, rfl⟩
  rw [setSeq_seq, setSeq_seq, hseed]

end Sys2Proof.Machine
end

section
/-! PROOFS. The debouncer and the edge detector (41_debounce_edge R76 to R80): what a tick does to one bit in each of its three
branches; the registers are then compared bit by bit. -/
namespace Sys2Proof.Machine

open Sys2Proof.Safety

/-! ## One bit of the debouncer -/

@[simp] theorem debBit_deb (v : Bool) (n : Nat) : (debBit v n).deb = v := rfl

@[simp] theorem debBit_cnt (v : Bool) (n : Nat) : (debBit v n).cnt = n % 4 := by
  have planes : 2 * (n / 2 ^ 1 % 2) + n / 2 ^ 0 % 2 = n % 4 := by omega
  rw [← planes, ← Nat.toNat_testBit, ← Nat.toNat_testBit]
  rfl

section Branches
variable {N : DebounceN} {raw : Bool} {d : DebBit}

theorem debounceBit_of_agree (h : raw = d.deb) : debounceBit N raw d = debBit d.deb 0 := if_pos h

theorem debounceBit_of_last (h : raw ≠ d.deb) (hc : d.cnt + 1 = N.count) : debounceBit N raw d = debBit raw 0 := by
  rw [debounceBit, if_neg h, if_pos hc]

theorem debounceBit_of_counting (h : raw ≠ d.deb) (hc : d.cnt + 1 ≠ N.count) :
    debounceBit N raw d = debBit d.deb (d.cnt + 1) := by
  rw [debounceBit, if_neg h, if_neg hc]

/-- The three branches together, as 41 R76 states them: the debounced bit and the count after the tick. -/
theorem debounceBit_rule (N : DebounceN) (raw : Bool) (d : DebBit) :
    if raw = d.deb then (debounceBit N raw d).deb = d.deb ∧ (debounceBit N raw d).cnt = 0
    else if d.cnt + 1 = N.count then (debounceBit N raw d).deb = raw ∧ (debounceBit N raw d).cnt = 0
    else (debounceBit N raw d).deb = d.deb ∧ (debounceBit N raw d).cnt = (d.cnt + 1) % 4 := by
  split_ifs with hagree hlast
  · simp [debounceBit_of_agree hagree]
  · simp [debounceBit_of_last hagree hlast]
  · simp [debounceBit_of_counting hagree hlast]

/-- At the window of 2, two ticks from count 0 end on the second sample with count 0 again: the first, differing one only counts,
and the second one either takes the count back or is the last of the window. -/
theorem debounceBit_two_twice {raw1 raw2 : Bool} (hcnt : d.cnt = 0) (hdiff : raw1 ≠ d.deb) :
    debounceBit .two raw2 (debounceBit .two raw1 d) = debBit raw2 0 := by
  have first : debounceBit .two raw1 d = debBit d.deb 1 := by
    rw [debounceBit_of_counting hdiff (by rw [hcnt]; decide), hcnt]
  rw [first]
  by_cases h2 : raw2 = d.deb
  · rw [h2]; exact debounceBit_of_agree rfl
  · exact debounceBit_of_last h2 (by rw [debBit_cnt]; rfl)

/-- The window of 2 uses the low plane only: a differing bit flips exactly if its count is already 1 (41 R77). -/
theorem debounceBit_two_planes (h : d.cnt < 2) :
    debounceBit .two raw d =
      { deb := d.deb ^^ ((raw ^^ d.deb) && d.lo), hi := false, lo := (raw ^^ d.deb) && !d.lo } := by
  have table : ∀ raw deb lo : Bool, debounceBit .two raw ⟨deb, false, lo⟩ =
      ⟨deb ^^ ((raw ^^ deb) && lo), false, (raw ^^ deb) && !lo⟩ := by decide
  obtain ⟨deb, hi, lo⟩ := d
  cases hi with
  | false => exact table raw deb lo
  | true => exact absurd h (Nat.not_lt.2 (Nat.le_add_right 2 _))

/-- The window of 3 flips a differing bit exactly if its count is already 2, the high plane's bit (41 R77). -/
theorem debounceBit_three_planes (h : d.cnt < 3) :
    debounceBit .three raw d =
      { deb := d.deb ^^ ((raw ^^ d.deb) && d.hi)
        hi := (raw ^^ d.deb) && d.lo && !d.hi
        lo := (raw ^^ d.deb) && !d.lo && !d.hi } := by
  have table : ∀ raw deb hi lo : Bool, (⟨deb, hi, lo⟩ : DebBit).cnt < 3 → debounceBit .three raw ⟨deb, hi, lo⟩ =
      ⟨deb ^^ ((raw ^^ deb) && hi), (raw ^^ deb) && lo && !hi, (raw ^^ deb) && !lo && !hi⟩ := by decide
  exact table raw d.deb d.hi d.lo h

end Branches

/-! ## The debouncer's registers -/

theorem Deb.ext_bitAt {d e : Deb} (h : ∀ b, b < 8 → d.bitAt b = e.bitAt b) : d = e := by
  apply Deb.ext <;> refine BitVec.eq_of_getLsbD_eq fun b hb => ?_
  case pbDeb => exact congrArg DebBit.deb (h b hb)
  case cnt0 => exact congrArg DebBit.lo (h b hb)
  case cnt1 => exact congrArg DebBit.hi (h b hb)

theorem exec_dbTick (raw : Byte) (s : State) :
    exec (.dbTick raw) s = .next { s with deb := debounce Config.debounceN raw s.deb } := rfl

theorem execAll_dbTick_dbTick (raw1 raw2 : Byte) (s : State) :
    execAll [.dbTick raw1, .dbTick raw2] s =
      .next { s with deb := debounce Config.debounceN raw2 (debounce Config.debounceN raw1 s.deb) } := by
  rw [execAll_pair, exec_dbTick]
  exact exec_dbTick raw2 _

/-- Settles O23: bit by bit, one branch of the bit's rule for each branch of the statement. -/
theorem debounceTickTreatsEveryBit : Obligations.DebounceTickTreatsEveryBit := by
  intro raw s
  refine ⟨_, exec_dbTick raw s, fun b hb => ?_⟩
  have bit := debounceBit_rule Config.debounceN (raw.getLsbD b) (s.deb.bitAt b)
  rw [← debounce_bitAt _ _ _ hb] at bit
  exact bit

/-- Settles O24: the planes agree in each bit, where both forms are one truth table. -/
theorem bitPlaneFormEqualsTheBitRule : Obligations.BitPlaneFormEqualsTheBitRule := by
  constructor
  case left =>
    refine fun raw d hcnt => Deb.ext_bitAt fun b hb => ?_
    rw [debounce_bitAt _ _ _ hb, debounceBit_two_planes (hcnt b hb)]
    simp [Deb.bitAt, hb]
  case right =>
    refine fun raw d hcnt => Deb.ext_bitAt fun b hb => ?_
    rw [debounce_bitAt _ _ _ hb, debounceBit_three_planes (hcnt b hb)]
    simp [Deb.bitAt, hb]

/-- Settles O25: the two ticks are two ticks of bit `b` alone. -/
theorem glitchNeverFlipsAndChangeAlwaysDoes : Obligations.GlitchNeverFlipsAndChangeAlwaysDoes := by
  intro s raw1 raw2 b hb hcnt hdiff
  have bit : (debounce .two raw2 (debounce .two raw1 s.deb)).bitAt b = debBit (raw2.getLsbD b) 0 := by
    rw [debounce_bitAt _ _ _ hb, debounce_bitAt _ _ _ hb, debounceBit_two_twice hcnt hdiff]
  have count : ((debounce .two raw2 (debounce .two raw1 s.deb)).bitAt b).cnt = 0 := by rw [bit, debBit_cnt]
  exact ⟨_, execAll_dbTick_dbTick raw1 raw2 s, count, congrArg DebBit.deb bit⟩

/-! ## The edge detector -/

theorem exec_edgeSample (s : State) : exec .edgeSample s = .next (edgeSample s) := rfl

theorem edgesOf_falling_and_rising (prev curr : Byte) : (edgesOf prev curr).falling &&& (edgesOf prev curr).rising = 0 := by
  have bit : ∀ p c : Bool, (((p ^^ c) && p) && ((p ^^ c) && c)) = false := by decide
  refine BitVec.eq_of_getLsbD_eq fun b _ => ?_
  simp only [edgesOf, BitVec.getLsbD_and, BitVec.getLsbD_xor, bit]
  exact BitVec.getLsbD_zero.symm

theorem edgesOf_falling_or_rising (prev curr : Byte) :
    (edgesOf prev curr).falling ||| (edgesOf prev curr).rising = (edgesOf prev curr).changed := by
  have bit : ∀ p c : Bool, (((p ^^ c) && p) || ((p ^^ c) && c)) = (p ^^ c) := by decide
  refine BitVec.eq_of_getLsbD_eq fun b _ => ?_
  simp only [edgesOf, BitVec.getLsbD_or, BitVec.getLsbD_and, BitVec.getLsbD_xor, bit]

/-- Settles O26. -/
theorem edgeSampleComparesTwoPasses : Obligations.EdgeSampleComparesTwoPasses := fun s => by
  rw [exec_edgeSample, edgeSample_eq, edgesOf]

/-- Settles O27: the masks are those of two bytes, whatever the bytes are. -/
theorem edgeMasksAreDisjointAndCoverChanged : Obligations.EdgeMasksAreDisjointAndCoverChanged := fun s =>
  ⟨edgeSample s, exec_edgeSample s, edgesOf_falling_and_rising _ _, edgesOf_falling_or_rising _ _⟩

end Sys2Proof.Machine
end

section
/-! PROOFS. The timing service (42_timing_service R82 to R89): its operations' arms, and a wait as one run of its opening reset,
the ticks that follow, and the poll, for either kind of wait. -/
namespace Sys2Proof.Machine

open Sys2Proof.Safety

/-! ## The counter, its comparison and the delay -/

theorem exec_tmrTick (s : State) : exec .tmrTick s = .next (tmrTick s) := rfl

theorem exec_tmrReset (s : State) : exec .tmrReset s = .next (tmrReset s) := rfl

theorem exec_tmrReached (th : Half) (s : State) : exec (.tmrReached th) s = .next (s.setRet (reached th s)) := rfl

theorem exec_tmrPrepare (r : Bool) (v : Byte) (s : State) :
    exec (.tmrPrepare r v) s = .next ((tmrPrepare r v s).setRet r) := rfl

/-- The mapping of 42 R86 is 6.8 times the sample, rounded to the nearest, a half upwards, above its base of 250. -/
theorem delayOf_rounds (v : Byte) :
    10 * ((delayOf v).toNat - 250) ≤ 68 * v.toNat + 5 ∧ 68 * v.toNat < 10 * ((delayOf v).toNat - 250) + 5 := by
  rw [delayOf_toNat]
  omega

/-- Settles O28: the addition of 16-bit words is the one modulo 65536. -/
theorem elapsedCountsAndClears : Obligations.ElapsedCountsAndClears :=
  fun s => ⟨s.time.elapsed + 1, BitVec.toNat_add _ _, by rw [exec_tmrTick, tmrTick_eq], by rw [exec_tmrReset, tmrReset_eq]⟩

/-- Settles O29. -/
theorem reachedReturnsTheComparison : Obligations.ReachedReturnsTheComparison :=
  fun th s => exec_tmrReached th s

/-- Settles O30: one case for each value of `adc_ready`; the delay is the one the mapping derives. -/
theorem prepareDerivesTheDelay : Obligations.PrepareDerivesTheDelay := by
  refine fun v s => ⟨⟨delayOf v, delayOf_toNat v, delayOf_rounds v, ?ready⟩, ?notReady⟩
  case ready => rw [exec_tmrPrepare, tmrPrepare_ready]; rfl
  case notReady => rw [exec_tmrPrepare, tmrPrepare_notReady]; rfl

/-! ## A wait -/

variable {s : State} {k : WaitKind}

theorem exec_tmrWaitFull (s : State) : exec .tmrWaitFull s = .next (tmrWait .full s) := rfl

theorem exec_tmrWaitHalf (s : State) : exec .tmrWaitHalf s = .next (tmrWait .half s) := rfl

theorem waitThreshold_half_toNat (s : State) : (waitThreshold .half s).toNat = s.time.playbackDelay.toNat / 2 :=
  halfDelay_toNat s.time

/-- A foreground step during a wait is one poll, whatever the phase and the converter's ports. -/
theorem exec_fgStep_waiting (hwait : s.wait = some k) (r : Bool) (v : Byte) :
    exec (.fgStep r v) s = .next (pollWait k s) := by
  change foregroundStep Config.params r v s = _
  rw [foregroundStep, hwait]

theorem pollWait_eq_ite (k : WaitKind) (s : State) :
    pollWait k s = if (waitThreshold k s).toNat ≤ s.time.elapsed.toNat then { s with wait := none } else s := by
  simp only [pollWait, reached_iff]
  rfl

/-- Settles O31: either wait is opened by its reset, and the half wait's threshold is the delay's half. -/
theorem waitsResetThenPoll : Obligations.WaitsResetThenPoll := by
  refine fun r v s => ⟨?openFull, ?openHalf, fun hwait => ?pollFull, fun hwait => ?pollHalf⟩
  case openFull => rw [exec_tmrWaitFull, tmrWait_eq]
  case openHalf => rw [exec_tmrWaitHalf, tmrWait_eq]
  case pollFull => rw [exec_fgStep_waiting hwait, pollWait_eq_ite, waitThreshold]
  case pollHalf => rw [exec_fgStep_waiting hwait, pollWait_eq_ite, waitThreshold_half_toNat]

theorem pollWait_ends_iff (hwait : s.wait = some k) :
    (pollWait k s).wait = none ↔ (waitThreshold k s).toNat ≤ s.time.elapsed.toNat := by
  rw [pollWait_eq_ite]
  split
  case isTrue hreached => exact iff_of_true rfl hreached
  case isFalse hbelow => exact iff_of_false (hwait ▸ Option.some_ne_none k) hbelow

/-- Outside the wait itself a poll writes nothing. -/
theorem pollWait_frame (k : WaitKind) (s : State) : (pollWait k s).time = s.time ∧ (pollWait k s).game = s.game := by
  rw [pollWait_eq]
  exact ⟨rfl, rfl⟩

theorem execAll_append (is js : List Instr) (s : State) :
    execAll (is ++ js) s = andThen (execAll is s) (execAll js) := by
  induction is generalizing s with
  | nil => rfl
  | cons i is ih =>
    rw [List.cons_append, execAll, execAll]
    cases exec i s with
    | next t => exact ih t
    | fault _ => rfl
    | refused _ => rfl

theorem execAll_singleton (i : Instr) (s : State) : execAll [i] s = exec i s := andThen_next_right (exec i s)

/-- A state in which `n` ticks of 1 ms have been counted. -/
def ticked (n : Nat) (s : State) : State := s.setTime { s.time with elapsed := s.time.elapsed + BitVec.ofNat 16 n }

theorem ticked_zero (s : State) : ticked 0 s = s := by simp [ticked, State.setTime]

theorem ticked_tmrTick (n : Nat) (s : State) : ticked n (tmrTick s) = ticked (n + 1) s := by
  have count : s.time.elapsed + 1 + BitVec.ofNat 16 n = s.time.elapsed + BitVec.ofNat 16 (n + 1) := by
    rw [BitVec.add_assoc, Nat.add_comm n 1, BitVec.ofNat_add]; rfl
  exact congrArg (fun e => s.setTime { s.time with elapsed := e }) count

theorem exec_evT1_enabled (hie : s.ie = true) : exec .evT1 s = .next (tmrTick s) := takeEvent_enabled handleT1 hie

/-- With events enabled every tick is counted, and counting leaves them enabled. -/
theorem execAll_evT1s (n : Nat) (hie : s.ie = true) : execAll (List.replicate n .evT1) s = .next (ticked n s) := by
  induction n generalizing s with
  | zero => rw [ticked_zero]; rfl
  | succ n ih =>
    calc execAll (List.replicate (n + 1) .evT1) s
      _ = andThen (exec .evT1 s) (execAll (List.replicate n .evT1)) := rfl
      _ = execAll (List.replicate n .evT1) (tmrTick s) := by rw [exec_evT1_enabled hie, andThen_next]
      _ = .next (ticked n (tmrTick s)) := ih hie
      _ = _ := by rw [ticked_tmrTick]

/-- The counter holds the ticks since the reset that opened the wait, as long as it has not wrapped. -/
theorem ticked_tmrWait_elapsed {n : Nat} (hn : n < 65536) (k : WaitKind) (s : State) :
    (ticked n (tmrWait k s)).time.elapsed.toNat = n := by
  change (0#16 + BitVec.ofNat 16 n).toNat = n
  rw [BitVec.zero_add, BitVec.toNat_ofNat, Nat.mod_eq_of_lt hn]

theorem waitThreshold_ticked_tmrWait (n : Nat) (k : WaitKind) (s : State) :
    waitThreshold k (ticked n (tmrWait k s)) = waitThreshold k s := by
  cases k <;> rfl

/-- A wait of either kind, `n` ticks and a foreground step: the step polls a counter of `n`. -/
theorem wait_ends_at_threshold {op : Instr} {n : Nat} (hop : exec op s = .next (tmrWait k s)) (hie : s.ie = true)
    (hn : n < 65536) (r : Bool) (v : Byte) :
    ∃ t, execAll (op :: (List.replicate n .evT1 ++ [.fgStep r v])) s = .next t ∧
      (t.wait = none ↔ (waitThreshold k s).toNat ≤ n) ∧ t.time.elapsed.toNat = n ∧ t.game = s.game := by
  have hwait : (ticked n (tmrWait k s)).wait = some k := rfl
  have elapsed := ticked_tmrWait_elapsed hn k s
  obtain ⟨htime, hgame⟩ := pollWait_frame k (ticked n (tmrWait k s))
  refine ⟨pollWait k (ticked n (tmrWait k s)), ?run, ?ends, htime ▸ elapsed, hgame⟩
  case run =>
    have ticks : execAll (List.replicate n .evT1) (tmrWait k s) = .next (ticked n (tmrWait k s)) := execAll_evT1s n hie
    rw [execAll, hop, andThen_next, execAll_append, ticks, andThen_next, execAll_singleton, exec_fgStep_waiting hwait]
  case ends => rw [pollWait_ends_iff hwait, elapsed, waitThreshold_ticked_tmrWait]

/-- Settles O32: both waits are the one run, each with its threshold. -/
theorem waitEndsExactlyAtItsThreshold : Obligations.WaitEndsExactlyAtItsThreshold := by
  refine fun s n r v hie hn => ⟨wait_ends_at_threshold (exec_tmrWaitFull s) hie hn r v, ?half⟩
  have half := wait_ends_at_threshold (exec_tmrWaitHalf s) hie hn r v
  rwa [waitThreshold_half_toNat] at half

end Sys2Proof.Machine
end

section
/-! PROOFS. The display multiplexer (43_display_multiplexer R91 to R98): the bytes its operations set, the digit a latched byte is
shown on, and one tick and completion pair as a single operation, which two pairs apply twice. -/
namespace Sys2Proof.Machine

open Sys2Proof.Safety

/-! ## The display bytes -/

theorem exec_dispSet (l r : Seg) (s : State) : exec (.dispSet l r) s = .next (dispSet l r s) := rfl

theorem exec_dispRender (idx : BarIdx) (s : State) :
    exec (.dispRender idx) s =
      exec (.dispSet (barPatterns Config.params idx).1 (barPatterns Config.params idx).2) s := rfl

theorem exec_dispBlank (s : State) : exec .dispBlank s = exec (.dispSet (Config.segDigit 10) (Config.segDigit 10)) s := rfl

theorem exec_dispDigits (n : Byte) (s : State) : exec (.dispDigits n) s = dispDigits Config.params n s := rfl

theorem leftByte_eq_append (l : Seg) : leftByte l = (0b1#1 ++ l : Byte) := by
  revert l; unfold leftByte Config.leftMark; decide

theorem rightByte_eq_append (r : Seg) : rightByte r = (0b0#1 ++ r : Byte) := by
  revert r; unfold rightByte; decide

/-- `DISP.SET` with the marker bits written in front of the patterns. -/
theorem dispSet_eq_append (l r : Seg) (s : State) :
    dispSet l r s = { s with disp := ⟨(0b1#1 ++ l : Byte), (0b0#1 ++ r : Byte)⟩ } := by
  rw [dispSet_eq, leftByte_eq_append, rightByte_eq_append]

/-- The bars by index: four indices hold one bar each, the others none. -/
theorem barPatterns_eq_ite (P : Params) (idx : BarIdx) :
    barPatterns P idx =
      if idx = 0 then (P.segBarL, P.segBlank)
      else if idx = 1 then (P.segBarR, P.segBlank)
      else if idx = 2 then (P.segBlank, P.segBarL)
      else if idx = 3 then (P.segBlank, P.segBarR)
      else (P.segBlank, P.segBlank) := by
  have every : ∀ i : BarIdx, i = 0 ∨ i = 1 ∨ i = 2 ∨ i = 3 ∨ i = 4 ∨ i = 5 ∨ i = 6 ∨ i = 7 := by decide
  rcases every idx with rfl | rfl | rfl | rfl | rfl | rfl | rfl | rfl <;> rfl

/-- Settles O33: `DISP.RENDER` and `DISP.BLANK` are `DISP.SET` of the index's patterns and of two blanks. -/
theorem displayBytesAreSet : Obligations.DisplayBytesAreSet := by
  refine fun l r idx s => ⟨?set, ?render, ?blank, ⟨_, exec_dispRender idx s⟩⟩
  case set => rw [exec_dispSet, dispSet_eq_append]
  case render =>
    rw [exec_dispRender, barPatterns_eq_ite]
    split_ifs <;> rfl
  case blank => rw [exec_dispBlank, exec_dispSet, dispSet_eq_append]

/-- Settles O36: the digits with an entry are those below 11, and the tens digit is such below 110 only. -/
theorem digitsShowTheScore : Obligations.DigitsShowTheScore := by
  refine fun n s => ⟨fun hlow => ?shown, fun hhigh => ?fault⟩
  case shown =>
    refine ⟨⟨tensDigit n, (tensDigit_lt_iff n).2 hlow⟩, ⟨onesDigit n, onesDigit_lt n⟩, rfl, rfl, ?_⟩
    rw [exec_dispDigits, dispDigits_lt _ hlow, dispSet_eq_append]
    rfl
  case fault => rw [exec_dispDigits, dispDigits_ge _ hhigh]

/-! ## Shipping and latching -/

theorem exec_dispTick (s : State) : exec .dispTick s = dispTick s := rfl

theorem exec_dispLatch (s : State) : exec .dispLatch s = .next (dispLatch s) := rfl

/-- Settles O34: `XFER_BUSY` decides. -/
theorem displayTickShipsOneByte : Obligations.DisplayTickShipsOneByte := by
  refine fun s => ⟨fun hidle => ?ships, fun hbusy => ?faults⟩
  case ships => rw [exec_dispTick, dispTick_idle hidle, shipByte_eq]
  case faults => rw [exec_dispTick, dispTick_busy hbusy]

section Latch
variable {b : Byte}

theorem segField_eq_extractLsb' (b : Byte) : segField b = b.extractLsb' 0 7 := BitVec.setWidth_eq_extractLsb' (by decide)

theorem latchPanel_left (h : b.getLsbD 7 = true) (p : Panel) :
    latchPanel b p = { vis := b, digLeft := b.extractLsb' 0 7, digRight := p.digRight } := by
  rw [latchPanel, if_pos h, if_pos h, segField_eq_extractLsb']

theorem latchPanel_right (h : b.getLsbD 7 = false) (p : Panel) :
    latchPanel b p = { vis := b, digLeft := p.digLeft, digRight := b.extractLsb' 0 7 } := by
  have unmarked : ¬ b.getLsbD 7 = true := Bool.eq_false_iff.1 h
  rw [latchPanel, if_neg unmarked, if_neg unmarked, segField_eq_extractLsb']

end Latch

/-- Settles O35: the marker bit of the latched byte selects the digit. -/
theorem latchShowsTheByteOnItsDigit : Obligations.LatchShowsTheByteOnItsDigit := by
  refine fun s => ⟨latchPanel s.mux.txByte s.panel, ?step, rfl, fun hleft => ?left, fun hright => ?right⟩
  case step => rw [exec_dispLatch, dispLatch_eq]
  case left => rw [latchPanel_left hleft]; exact ⟨rfl, rfl⟩
  case right => rw [latchPanel_right hright]; exact ⟨rfl, rfl⟩

/-! ## Tick and completion pairs -/

variable {s : State}

theorem exec_evT5_idle (hie : s.ie = true) (hidle : s.mux.xferBusy = false) (raw : Byte) :
    exec (.evT5 raw) s = .next (shipByte (dbTick Config.params raw s)) :=
  (takeEvent_enabled (handleT5 Config.params raw) hie).trans (dispTick_idle hidle)

theorem exec_evXd_enabled (hie : s.ie = true) : exec .evXd s = .next (dispLatch s) := takeEvent_enabled handleXd hie

/-- The byte the next tick ships (43 R94). -/
def selectedByte (s : State) : Byte := if s.mux.dispSel then s.disp.dispR else s.disp.dispL

/-- One 5 ms tick and the completion of the transfer it starts: the selected byte is shown. -/
def refresh (raw : Byte) (s : State) : State := dispLatch (shipByte (dbTick Config.params raw s))

theorem execAll_evT5_evXd (hie : s.ie = true) (hidle : s.mux.xferBusy = false) (raw : Byte) :
    execAll [.evT5 raw, .evXd] s = .next (refresh raw s) := by
  have shipped : (shipByte (dbTick Config.params raw s)).ie = true := hie
  rw [execAll_pair, exec_evT5_idle hie hidle, andThen_next, exec_evXd_enabled shipped, refresh]

section Refresh
variable (raw : Byte) (s : State)

@[simp] theorem refresh_ie : (refresh raw s).ie = s.ie := rfl
@[simp] theorem refresh_disp : (refresh raw s).disp = s.disp := rfl
@[simp] theorem refresh_game : (refresh raw s).game = s.game := rfl
@[simp] theorem refresh_dispSel : (refresh raw s).mux.dispSel = !s.mux.dispSel := rfl
@[simp] theorem refresh_xferBusy : (refresh raw s).mux.xferBusy = false := rfl
@[simp] theorem refresh_panel : (refresh raw s).panel = latchPanel (selectedByte s) s.panel := rfl

end Refresh

/-- Each pair leaves the transport idle, so a second one may follow. -/
theorem execAll_two_refreshes (hie : s.ie = true) (hidle : s.mux.xferBusy = false) (raw1 raw2 : Byte) :
    execAll [.evT5 raw1, .evXd, .evT5 raw2, .evXd] s = .next (refresh raw2 (refresh raw1 s)) := by
  have second : execAll [.evT5 raw2, .evXd] (refresh raw1 s) = .next (refresh raw2 (refresh raw1 s)) :=
    execAll_evT5_evXd ((refresh_ie raw1 s).trans hie) (refresh_xferBusy raw1 s) raw2
  calc execAll [.evT5 raw1, .evXd, .evT5 raw2, .evXd] s
    _ = andThen (execAll [.evT5 raw1, .evXd] s) (execAll [.evT5 raw2, .evXd]) :=
      execAll_append [.evT5 raw1, .evXd] [.evT5 raw2, .evXd] s
    _ = _ := by rw [execAll_evT5_evXd hie hidle, andThen_next, second]

/-- The two bytes are shown one after the other, on different digits by their markers, so the second keeps the first. -/
theorem two_refreshes_digits (hleft : s.disp.dispL.getLsbD 7 = true) (hright : s.disp.dispR.getLsbD 7 = false)
    (raw1 raw2 : Byte) :
    (refresh raw2 (refresh raw1 s)).panel.digLeft = s.disp.dispL.extractLsb' 0 7 ∧
      (refresh raw2 (refresh raw1 s)).panel.digRight = s.disp.dispR.extractLsb' 0 7 := by
  rw [refresh_panel, refresh_panel]
  cases hsel : s.mux.dispSel with
  | false =>
    have first : selectedByte s = s.disp.dispL := by simp [selectedByte, hsel]
    have second : selectedByte (refresh raw1 s) = s.disp.dispR := by simp [selectedByte, hsel]
    rw [first, second, latchPanel_right hright, latchPanel_left hleft]
    exact ⟨rfl, rfl⟩
  | true =>
    have first : selectedByte s = s.disp.dispR := by simp [selectedByte, hsel]
    have second : selectedByte (refresh raw1 s) = s.disp.dispL := by simp [selectedByte, hsel]
    rw [first, second, latchPanel_left hleft, latchPanel_right hright]
    exact ⟨rfl, rfl⟩

/-- Settles O37: whichever byte is selected first, the two pairs ship both and turn `DISP_SEL` twice. -/
theorem twoTickPairsRefreshBothDigits : Obligations.TwoTickPairsRefreshBothDigits := by
  intro s raw1 raw2 hie hidle hleft hright
  obtain ⟨digLeft, digRight⟩ := two_refreshes_digits hleft hright raw1 raw2
  refine ⟨_, execAll_two_refreshes hie hidle raw1 raw2, digLeft, digRight, ?turnedTwice, refresh_xferBusy _ _, ?game⟩
  case turnedTwice => rw [refresh_dispSel, refresh_dispSel, Bool.not_not]
  case game => rw [refresh_game, refresh_game]

end Sys2Proof.Machine
end

section
/-! PROOFS. The tone generator (44_tone_generator R99 to R103): its operations' arms, a run of one operation that writes one
register of the state, and the octave and the square wave after such a run. -/
namespace Sys2Proof.Machine

open Sys2Proof.Safety

/-! ## The operations -/

theorem exec_toneOn (i : LB) (s : State) : exec (.toneOn i) s = .next (toneOn Config.params i s) := rfl

theorem exec_toneOff (s : State) : exec .toneOff s = .next (toneOff s) := rfl

theorem exec_octInc (s : State) : exec .octInc s = .next (octInc s) := rfl

theorem exec_octDec (s : State) : exec .octDec s = .next (octDec s) := rfl

theorem exec_evPwmClk (s : State) : exec .evPwmClk s = .next (pwmClk s) := rfl

theorem exec_opPwmClk (s : State) : exec .opPwmClk s = .next (pwmClk s) := rfl

/-- Settles O38: the period is shifted by `3 + OCT`, and the compare value is half of it. -/
theorem toneOnAndOff : Obligations.ToneOnAndOff := fun i s =>
  ⟨by rw [exec_toneOn, toneOn_eq]; rfl, by rw [exec_toneOff, toneOff_eq]⟩

/-! ## A run of one operation -/

/-- An instruction that only applies `g` to one register applies it `n` times in a run of `n`; `set` puts the register into the
fixed rest of the state. -/
theorem execAll_replicate {α : Type} {i : Instr} {set : α → State} {g : α → α}
    (hstep : ∀ a, exec i (set a) = .next (set (g a))) (n : Nat) (a : α) :
    execAll (List.replicate n i) (set a) = .next (set (g^[n] a)) := by
  induction n generalizing a with
  | zero => rfl
  | succ n ih =>
    calc execAll (List.replicate (n + 1) i) (set a)
      _ = andThen (exec i (set a)) (execAll (List.replicate n i)) := rfl
      _ = execAll (List.replicate n i) (set (g a)) := by rw [hstep, andThen_next]
      _ = .next (set (g^[n] (g a))) := ih (g a)

/-! ## The octave -/

theorem execAll_octIncs (n : Nat) (s : State) :
    execAll (List.replicate n .octInc) s = .next (s.setOct (octaveUp^[n] s.oct)) :=
  execAll_replicate (set := s.setOct) (fun o => exec_octInc (s.setOct o)) n s.oct

theorem execAll_octDecs (n : Nat) (s : State) :
    execAll (List.replicate n .octDec) s = .next (s.setOct (octaveDown^[n] s.oct)) :=
  execAll_replicate (set := s.setOct) (fun o => exec_octDec (s.setOct o)) n s.oct

/-- Saturated steps up add up to one saturated sum, from the first step on. -/
theorem octaveUp_iterate_value (n : Nat) (o : Octave) :
    (octaveUp^[n + 1] o).value = min 3 (o.value + (n + 1)) := by
  induction n with
  | zero => simpa using octaveUp_value o
  | succ n ih =>
    rw [Function.iterate_succ_apply', octaveUp_value, ih]
    omega

theorem octaveDown_iterate_value (n : Nat) (o : Octave) :
    (octaveDown^[n + 1] o).value = max (-3) (o.value - (n + 1)) := by
  induction n with
  | zero => simpa using octaveDown_value o
  | succ n ih =>
    rw [Function.iterate_succ_apply', octaveDown_value, ih]
    omega

/-- Settles O39: ten steps from 0 pass the bound of 3, where the sum saturates. -/
theorem octaveStepsSaturate : Obligations.OctaveStepsSaturate := by
  refine ⟨fun s => ⟨⟨_, octaveUp_value s.oct, ?inc⟩, ⟨_, octaveDown_value s.oct, ?dec⟩⟩, fun s hzero =>
    ⟨⟨_, ?top, execAll_octIncs 10 s⟩, ⟨_, ?bottom, execAll_octDecs 10 s⟩⟩⟩
  case inc => rw [exec_octInc, octInc_eq]
  case dec => rw [exec_octDec, octDec_eq]
  case top => rw [octaveUp_iterate_value, hzero]; rfl
  case bottom => rw [octaveDown_iterate_value, hzero]; rfl

/-! ## The square wave -/

/-- Settles O40: both rows are the one strobe, and neither reads `IE`. -/
theorem pwmStrobeCountsAndCompares : Obligations.PwmStrobeCountsAndCompares := fun s =>
  ⟨waveCount s.tone s.wave, rfl, by rw [exec_evPwmClk, pwmClk_eq]; rfl, by rw [exec_opPwmClk, pwmClk_eq]; rfl⟩

/-- One strobe of the square wave under the tone's registers. -/
def strobed (t : Tone) (w : Wave) : Wave := ⟨waveCount t w, waveOut t (waveCount t w)⟩

theorem exec_evPwmClk_setWave (s : State) (w : Wave) :
    exec .evPwmClk (s.setWave w) = .next (s.setWave (strobed s.tone w)) := by
  rw [exec_evPwmClk, pwmClk_eq]; rfl

theorem execAll_evPwmClks (n : Nat) (s : State) :
    execAll (List.replicate n .evPwmClk) s = .next (s.setWave ((strobed s.tone)^[n] s.wave)) :=
  execAll_replicate (exec_evPwmClk_setWave s) n s.wave

/-- Up to the period the count steps modulo one more than it: it cannot wrap at 16 bits before it returns to 0. -/
theorem waveCount_toNat {t : Tone} {w : Wave} (h : w.pwmCnt.toNat ≤ t.pwmPer.toNat) :
    (waveCount t w).toNat = (w.pwmCnt.toNat + 1) % (t.pwmPer.toNat + 1) := by
  have hper := t.pwmPer.isLt
  unfold waveCount
  split
  case isTrue hend => rw [Nat.le_antisymm h hend, Nat.mod_self]; rfl
  case isFalse hend =>
    rw [Nat.mod_eq_of_lt (by omega)]
    exact BitVec.toNat_add_of_lt (show w.pwmCnt.toNat + 1 < 2 ^ 16 by omega)

theorem strobed_iterate_count {t : Tone} {w : Wave} (h : w.pwmCnt.toNat ≤ t.pwmPer.toNat) (n : Nat) :
    ((strobed t)^[n] w).pwmCnt.toNat = (w.pwmCnt.toNat + n) % (t.pwmPer.toNat + 1) := by
  induction n with
  | zero => exact (Nat.mod_eq_of_lt (Nat.lt_succ_of_le h)).symm
  | succ n ih =>
    have inPeriod : ((strobed t)^[n] w).pwmCnt.toNat ≤ t.pwmPer.toNat :=
      ih ▸ Nat.le_of_lt_succ (Nat.mod_lt _ (Nat.succ_pos _))
    calc ((strobed t)^[n + 1] w).pwmCnt.toNat
      _ = (waveCount t ((strobed t)^[n] w)).toNat := by rw [Function.iterate_succ_apply', strobed]
      _ = ((w.pwmCnt.toNat + n) % (t.pwmPer.toNat + 1) + 1) % (t.pwmPer.toNat + 1) := by rw [waveCount_toNat inPeriod, ih]
      _ = (w.pwmCnt.toNat + (n + 1)) % (t.pwmPer.toNat + 1) := by rw [Nat.mod_add_mod, Nat.add_assoc]

/-- The last strobe of a run compares the count the run ends with. -/
theorem strobed_iterate_out (t : Tone) (w : Wave) {n : Nat} (hn : 0 < n) :
    ((strobed t)^[n] w).toneOut = true ↔ ((strobed t)^[n] w).pwmCnt.toNat < t.pwmCmp.toNat := by
  obtain ⟨m, rfl⟩ := Nat.exists_eq_add_one.2 hn
  rw [Function.iterate_succ_apply']
  exact decide_eq_true_iff

/-- Settles O41: the run writes the wave alone, whose count goes round its period. -/
theorem pwmPeriodIsPerPlusOne : Obligations.PwmPeriodIsPerPlusOne := fun s n hcnt =>
  ⟨_, execAll_evPwmClks n s, strobed_iterate_count hcnt n, strobed_iterate_out s.tone s.wave, rfl⟩

end Sys2Proof.Machine
end

section
/-! PROOFS. The foreground's micro-steps as the rules give them (45_gameplay R105 to R121): each as the operations it performs one
after another and what it makes of the gameplay registers, and the one that the foreground's phase and slot select. -/
namespace Sys2Proof.Machine

open Sys2Proof.Safety

variable {s : State}

/-! ## Thresholds -/

theorem reached_of_le {th : Half} (h : th.toNat ≤ s.time.elapsed.toNat) : reached th s = true := (reached_iff th s).2 h

theorem not_reached_of_lt {th : Half} (h : s.time.elapsed.toNat < th.toNat) : ¬ reached th s = true :=
  fun hreached => absurd ((reached_iff th s).1 hreached) (Nat.not_le.2 h)

/-! ## The arms -/

theorem exec_fgTop (s : State) : exec .fgTop s = .next (goPhase (stagePhase s.game.stage) (edgeSample s)) := rfl

theorem exec_fgSimPrep (r : Bool) (v : Byte) (s : State) : exec (.fgSimPrep r v) s = .next (microSimPrep r v s) := rfl

theorem exec_fgSimNext (s : State) : exec .fgSimNext s = .next (microSimNext Config.params s) := rfl

theorem exec_fgSimOnWait (s : State) : exec .fgSimOnWait s = .next (microSimOnWait Config.params s) := rfl

theorem exec_fgSimOffWait (s : State) : exec .fgSimOffWait s = .next (microSimOffWait s) := rfl

theorem exec_fgPlySubWait (s : State) : exec .fgPlySubWait s = .next (microPlyWait Config.params s) := rfl

theorem exec_fgPlyPost (s : State) : exec .fgPlyPost s = .next (microPlyPost s) := rfl

theorem exec_fgSucWait (s : State) : exec .fgSucWait s = .next (microSucWait Config.params s) := rfl

theorem exec_fgFailWait1 (s : State) : exec .fgFailWait1 s = microFailWait1 Config.params s := rfl

theorem exec_fgFailWait2 (s : State) : exec .fgFailWait2 s = .next (microFailWait2 Config.params s) := rfl

/-! ## INIT and SIMON -/

/-- Settles O43: four micro-steps without a branch; `FG.TOP` dispatches on the stage. -/
theorem bootTopInitAndSimDone : Obligations.BootTopInitAndSimDone := by
  refine fun s => ⟨rfl, ⟨edgeSample s, exec_edgeSample s, ?top⟩, rfl, rfl⟩
  case top =>
    rw [exec_fgTop, goPhase_eq]
    cases s.game.stage <;> rfl

/-- Settles O44: the readiness of the sample decides. -/
theorem simonPrepReseedsAndPolls : Obligations.SimonPrepReseedsAndPolls := by
  refine fun r v s => ⟨(tmrPrepare r v (lfsrSeed s)).setRet r, rfl, ?_⟩
  rw [exec_fgSimPrep]
  cases r with
  | true => rw [microSimPrep_ready]; rfl
  | false => rw [microSimPrep_notReady]; rfl

/-- Settles O45: the playback index decides. -/
theorem simonNextPlaysOneStep : Obligations.SimonNextPlaysOneStep := by
  intro s
  rcases microSimNext_cases Config.params s with ⟨hend, he⟩ | ⟨hmore, he⟩ <;> rw [exec_fgSimNext, he]
  · exact ⟨fun _ => rfl, fun hne => absurd hend hne⟩
  · exact ⟨fun heq => absurd heq hmore, fun _ => ⟨_, playStep Config.params s, exec_lfsrAdvance s, rfl, rfl⟩⟩

theorem microSimOnWait_below (P : Params) (h : s.time.elapsed.toNat < (halfDelay s.time).toNat) : microSimOnWait P s = s :=
  if_neg (not_reached_of_lt h)

theorem microSimOnWait_reached (P : Params) (h : (halfDelay s.time).toNat ≤ s.time.elapsed.toNat) :
    microSimOnWait P s = goPhase .simOffWait (tmrReset (dispBlank P (toneOff s))) := if_pos (reached_of_le h)

theorem microSimOffWait_below (h : s.time.elapsed.toNat < (halfDelay s.time).toNat) : microSimOffWait s = s :=
  if_neg (not_reached_of_lt h)

theorem microSimOffWait_reached (h : (halfDelay s.time).toNat ≤ s.time.elapsed.toNat) :
    microSimOffWait s = s.setGame { s.game with playIdx := s.game.playIdx + 1, fgPh := .simNext } := if_pos (reached_of_le h)

/-- Settles O46: the half delay decides. -/
theorem simonHalfWaits : Obligations.SimonHalfWaits := by
  refine fun s => ⟨fun hbelow => ?polls, fun hreached => ?moves⟩ <;> rw [exec_fgSimOnWait, exec_fgSimOffWait]
  case polls => rw [microSimOnWait_below _ hbelow, microSimOffWait_below hbelow]; exact ⟨rfl, rfl⟩
  case moves =>
    rw [microSimOnWait_reached _ hreached, microSimOffWait_reached hreached]
    exact ⟨⟨tmrReset (dispBlank Config.params (toneOff s)), rfl, rfl⟩, rfl⟩

/-! ## PLAYER: the WAIT scan -/

theorem scanPress_eq_none {P : Params} (h : ∀ i, pressEdge P s i = false ∧ keyFor s i = false) : scanPress P s = none := by
  rcases scanPress_cases P s with ⟨hscan, -⟩ | ⟨i, -, hi, -⟩
  · exact hscan
  · obtain ⟨hedge, hkey⟩ := h i
    simp [hedge, hkey] at hi

/-- The scan finds the lowest button with an edge or a key. -/
theorem scanPress_eq_some {P : Params} {i : LB} (hi : pressEdge P s i = true ∨ keyFor s i = true)
    (hlow : ∀ j : LB, j.toNat < i.toNat → pressEdge P s j = false ∧ keyFor s j = false) : scanPress P s = some i := by
  have silent {j : LB} (hj : pressEdge P s j = true ∨ keyFor s j = true) :
      ¬ (pressEdge P s j = false ∧ keyFor s j = false) := by
    rintro ⟨hedge, hkey⟩
    simp [hedge, hkey] at hj
  rcases scanPress_cases P s with ⟨-, hnone⟩ | ⟨k, hscan, hk, hbelow⟩
  · exact absurd (hnone i) (silent hi)
  · rcases Nat.lt_trichotomy k.toNat i.toNat with hlt | heq | hgt
    · exact absurd (hlow k hlt) (silent hk)
    · rw [hscan, BitVec.eq_of_toNat_eq heq]
    · exact absurd (hbelow i hgt) (silent hi)

/-- Settles O47: the edges and keys are those the scan tests, and recognising its button writes what R114 lists. -/
theorem waitScanRecognisesTheFirstPress : Obligations.WaitScanRecognisesTheFirstPress := by
  intro s phys key hphys hkey
  have hedge (i : LB) : phys i ↔ pressEdge Config.params s i = true := hphys i
  have hpend (i : LB) : key i ↔ keyFor s i = true := by rw [hkey, keyFor, Bool.and_eq_true, decide_eq_true_iff]
  have silent (j : LB) (hj : ¬ phys j ∧ ¬ key j) : pressEdge Config.params s j = false ∧ keyFor s j = false := by
    rwa [hedge, hpend, Bool.not_eq_true, Bool.not_eq_true] at hj
  refine ⟨fun hnone => ?none, fun i hi hlow => ?press⟩ <;> rw [exec_fgPlySubWait, microPlyWait]
  case none => rw [scanPress_eq_none fun j => silent j (hnone j)]; rfl
  case press =>
    rw [hedge, hpend] at hi
    rw [scanPress_eq_some hi fun j hj => silent j (hlow j hj), hedge, hpend]
    refine ⟨tmrReset (lfsrAdvance Config.params s), keyFor s i && !pressEdge Config.params s i, rfl, by simp,
      if keyFor s i then false else s.key.keyp, fun hk => if_pos hk, fun hk => if_neg hk, ?_⟩
    dsimp only
    rw [recognise_eq]
    rfl

/-! ## PLAYER: the held button and the round -/

/-- The held sub-state with its two sticky flags named. -/
theorem holdButton_of_flags {P : Params} {i : LB} {inc rel : Bool}
    (hinc : inc = true ↔ s.game.incorrect = true ∨ i ≠ s.seq.stepVal)
    (hrel : rel = true ↔ s.game.released = true ∨ releaseEdge P s i = true ∨ s.game.srcKey = true) :
    holdButton P i s =
      (dispRender P (i.setWidth 3) (toneOn P i s)).setGame { s.game with incorrect := inc, released := rel } := by
  have hinc' : inc = (s.game.incorrect || decide (i ≠ s.seq.stepVal)) := by
    rw [Bool.eq_iff_iff, hinc, Bool.or_eq_true, decide_eq_true_iff]
  have hrel' : rel = (s.game.released || releaseEdge P s i || s.game.srcKey) := by
    rw [Bool.eq_iff_iff, hrel, Bool.or_eq_true, Bool.or_eq_true, or_assoc]
  rw [hinc', hrel']
  rfl

theorem microPlyHeld_ends {P : Params} {i : LB} (hrel : (holdButton P i s).game.released = true)
    (hreached : (halfDelay s.time).toNat ≤ s.time.elapsed.toNat) :
    microPlyHeld P i s = goPhase .plyPost (finishInput P (holdButton P i s)) :=
  congrArg (goPhase .plyPost) (if_pos (Bool.and_eq_true_iff.2 ⟨hrel, reached_of_le hreached⟩))

theorem microPlyHeld_holds {P : Params} {i : LB}
    (h : (holdButton P i s).game.released = false ∨ s.time.elapsed.toNat < (halfDelay s.time).toNat) :
    microPlyHeld P i s = goPhase .plyPost (holdButton P i s) := by
  refine congrArg (goPhase .plyPost) (if_neg fun hends => ?_)
  obtain ⟨hrel, hreached⟩ := Bool.and_eq_true_iff.1 hends
  rcases h with hheld | hbelow
  · exact Bool.false_ne_true (hheld.symm.trans hrel)
  · exact not_reached_of_lt (s := s) hbelow hreached

/-- Each held slot's row is the micro-step of its button. -/
theorem exec_fgPlySub_held {x : Instr × LB}
    (hx : x ∈ [(Instr.fgPlySubB1, (0 : LB)), (.fgPlySubB2, 1), (.fgPlySubB3, 2), (.fgPlySubB4, 3)]) (s : State) :
    exec x.1 s = .next (microPlyHeld Config.params x.2 s) := by
  simp only [List.mem_cons, List.not_mem_nil, or_false] at hx
  rcases hx with rfl | rfl | rfl | rfl <;> rfl

/-- Settles O48: the two sticky flags and the half delay decide whether the input ends. -/
theorem heldButtonIsJudgedAndEnds : Obligations.HeldButtonIsJudgedAndEnds := by
  intro s x hx inc rel hinc hrel
  have hhold := holdButton_of_flags (P := Config.params) hinc hrel
  have hflag : (holdButton Config.params x.2 s).game.released = rel := by rw [hhold]; rfl
  rw [exec_fgPlySub_held hx]
  refine ⟨fun hreleased hreached => ?ends, fun hheld => ?holds⟩
  case ends =>
    rw [microPlyHeld_ends (hflag.trans hreleased) hreached, hhold, hreleased]
    exact ⟨dispBlank Config.params (toneOff (dispRender Config.params (x.2.setWidth 3) (toneOn Config.params x.2 s))), rfl, rfl⟩
  case holds =>
    rw [microPlyHeld_holds (hflag ▸ hheld), hhold]
    exact ⟨dispRender Config.params (x.2.setWidth 3) (toneOn Config.params x.2 s), rfl, rfl⟩

/-- Settles O49: an input consumed, its judgement, and the count decide. -/
theorem playerPostDecidesTheRound : Obligations.PlayerPostDecidesTheRound := by
  intro s
  rw [exec_fgPlyPost]
  rcases microPlyPost_cases s with ⟨hcons, he⟩ | ⟨hcons, he⟩
  · rw [he, if_pos hcons]; rfl
  · have hconsumed : ¬ s.game.consumed = false := by simp [hcons]
    rw [he, if_neg hconsumed]
    rcases judgeRound_cases s.game with ⟨hinc, hj⟩ | ⟨hinc, hcnt, hj⟩ | ⟨hinc, hcnt, hj⟩
    · rw [hj, if_pos hinc]; rfl
    · rw [hj, if_neg (Bool.eq_false_iff.1 hinc), if_pos hcnt]; rfl
    · rw [hj, if_neg (Bool.eq_false_iff.1 hinc), if_neg hcnt]; rfl

/-! ## SUCCESS and FAIL -/

theorem microSucWait_below (P : Params) (h : s.time.elapsed.toNat < s.time.playbackDelay.toNat) : microSucWait P s = s :=
  if_neg (not_reached_of_lt h)

theorem microSucWait_reached (P : Params) (h : s.time.playbackDelay.toNat ≤ s.time.elapsed.toNat) :
    microSucWait P s =
      (dispBlank P s).setGame { s.game with seqLen := s.game.seqLen + 1, stage := .simon, fgPh := .top } :=
  if_pos (reached_of_le h)

/-- Settles O50: the full delay decides. -/
theorem successShowsAndLengthens : Obligations.SuccessShowsAndLengthens := by
  refine fun s => ⟨⟨tmrReset (dispSet Config.patSuccessL Config.patSuccessR s), rfl, rfl⟩, fun hbelow => ?polls,
    fun hreached => ⟨dispBlank Config.params s, rfl, ?moves⟩⟩
  case polls => rw [exec_fgSucWait, microSucWait_below _ hbelow]
  case moves => rw [exec_fgSucWait, microSucWait_reached _ hreached]; rfl

theorem microFailWait1_below (P : Params) (h : s.time.elapsed.toNat < s.time.playbackDelay.toNat) :
    microFailWait1 P s = .next s := if_neg (not_reached_of_lt h)

theorem microFailWait1_reached (P : Params) (h : s.time.playbackDelay.toNat ≤ s.time.elapsed.toNat) :
    microFailWait1 P s = onNext (dispDigits P s.game.seqLen s) fun t => goPhase .failWait2 (tmrReset t) :=
  if_pos (reached_of_le h)

theorem microFailWait2_below (P : Params) (h : s.time.elapsed.toNat < s.time.playbackDelay.toNat) : microFailWait2 P s = s :=
  if_neg (not_reached_of_lt h)

theorem microFailWait2_reached (P : Params) (h : s.time.playbackDelay.toNat ≤ s.time.elapsed.toNat) :
    microFailWait2 P s =
      (lfsrSave (lfsrAdvance P (dispBlank P s))).setGame { s.game with stage := .init, fgPh := .top } :=
  if_pos (reached_of_le h)

/-- Settles O51: the full delay decides, and for the score whether it has digits. -/
theorem failShowsScoresAndSaves : Obligations.FailShowsScoresAndSaves := by
  refine fun s => ⟨⟨tmrReset (dispSet Config.patFailL Config.patFailR s), rfl, rfl⟩, fun hbelow => ?polls,
    fun hreached => ⟨fun hlow => ?score, fun hhigh => ?fault, ?saves⟩⟩
  case polls =>
    rw [exec_fgFailWait1, exec_fgFailWait2, microFailWait1_below _ hbelow, microFailWait2_below _ hbelow]
    exact ⟨rfl, rfl⟩
  case score =>
    rw [exec_fgFailWait1, microFailWait1_reached _ hreached, execAll_pair, exec_dispDigits, dispDigits_lt _ hlow]
    exact ⟨_, rfl, rfl⟩
  case fault => rw [exec_fgFailWait1, microFailWait1_reached _ hreached, dispDigits_ge _ hhigh]; rfl
  case saves =>
    rw [exec_fgFailWait2, microFailWait2_reached _ hreached]
    exact ⟨lfsrSave (lfsrAdvance Config.params (dispBlank Config.params s)), rfl, rfl⟩

/-! ## The selected micro-step -/

/-- The row that a phase and, in `PLY_SUB`, a slot select (30_encoding R59). -/
def microInstr (r : Bool) (v : Byte) : Phase → Slot → Instr
  | .boot, _ => .fgBoot
  | .top, _ => .fgTop
  | .init, _ => .fgInit
  | .simPrep, _ => .fgSimPrep r v
  | .simNext, _ => .fgSimNext
  | .simOnWait, _ => .fgSimOnWait
  | .simOffWait, _ => .fgSimOffWait
  | .simDone, _ => .fgSimDone
  | .plySub, .wait => .fgPlySubWait
  | .plySub, .b1 => .fgPlySubB1
  | .plySub, .b2 => .fgPlySubB2
  | .plySub, .b3 => .fgPlySubB3
  | .plySub, .b4 => .fgPlySubB4
  | .plyPost, _ => .fgPlyPost
  | .sucShow, _ => .fgSucShow
  | .sucWait, _ => .fgSucWait
  | .failShow, _ => .fgFailShow
  | .failWait1, _ => .fgFailWait1
  | .failWait2, _ => .fgFailWait2

/-- The phase's code with its leading 0 is the five bits above the slot's. -/
theorem fgphCode_eq (g : Game) : fgphCode g = (g.fgPh.code.setWidth 5 ++ g.slot.code : Byte) := by
  have hword (p : BitVec 4) (sss : BitVec 3) : ((0 : BitVec 1) ++ (p ++ sss) : Byte) = (p.setWidth 5 ++ sss : Byte) := by
    revert p sss; decide
  exact hword _ _

theorem decode_fgphCode (r : Bool) (v : Byte) (g : Game) :
    decode .fgph [fgphCode g, bitByte r, v] = .ok (microInstr r v g.fgPh g.slot) := by
  rw [fgphCode_eq, decode]
  cases g.fgPh with
  | plySub => cases g.slot <;> rfl
  | simPrep => exact (decodeFgph_simPrep g.slot.code _).trans (adcOperands_bitByte _ r v [])
  | _ => exact (decodeFgph_slot_irrelevant (by decide) g.slot.code _).trans rfl

/-- The micro-step of the foreground is the meaning of the selected row. -/
theorem microStep_eq_exec (r : Bool) (v : Byte) (s : State) :
    microStep Config.params r v s = exec (microInstr r v s.game.fgPh s.game.slot) s := by
  unfold microStep
  cases s.game.fgPh with
  | plySub =>
    unfold microPlySub
    cases s.game.slot <;> rfl
  | _ => rfl

theorem exec_fgStep_idle (hwait : s.wait = none) (r : Bool) (v : Byte) :
    exec (.fgStep r v) s = microStep Config.params r v s := by
  have hexec : exec (.fgStep r v) s = foregroundStep Config.params r v s := rfl
  rw [hexec, foregroundStep, hwait]

/-- A micro-step completes but for a score of 110 or more (60_exceptions R139). -/
theorem microStep_completes (P : Params) (r : Bool) (v : Byte)
    (hscore : s.game.fgPh = .failWait1 → s.game.seqLen.toNat < 110) : Completes (microStep P r v s) := by
  unfold microStep
  cases hp : s.game.fgPh with
  | failWait1 =>
    rcases Nat.lt_or_ge s.time.elapsed.toNat s.time.playbackDelay.toNat with hbelow | hreached
    · exact ⟨s, microFailWait1_below P hbelow⟩
    · rw [microFailWait1_reached P hreached, dispDigits_lt P (hscore hp)]
      exact ⟨_, rfl⟩
  | _ => exact ⟨_, rfl⟩

/-- Settles O52: the phase and the slot select the same row for the decoder and for the foreground. -/
theorem foregroundStepIsTheSelectedMicroStep : Obligations.ForegroundStepIsTheSelectedMicroStep := by
  intro r v s hwait
  rw [exec_fgStep_idle hwait]
  exact ⟨⟨_, decode_fgphCode r v s.game, microStep_eq_exec r v s⟩, microStep_completes Config.params r v⟩

end Sys2Proof.Machine
end

section
/-! PROOFS. A round as the foreground plays it (45_gameplay R105 to R123): what each micro-step makes of the gameplay registers and
the generator, said once, and from it the phase graph, the stage graph and the replay invariant. -/
namespace Sys2Proof.Safety

open Sys2Proof.Machine

variable {P : Params} {s t : State}

/-! ## The moves of a round -/

/-- What a micro-step makes of the generator and the gameplay registers, rule by rule; the polls that change nothing are one move. -/
inductive RoundMove (P : Params) (s t : State) : Prop
  /-- R106 -/
  | boot (hp : s.game.fgPh = .boot) (hq : t.seq = s.seq) (hg : t.game = { s.game with fgPh := .top })
  /-- R107 -/
  | dispatch (hp : s.game.fgPh = .top) (hq : t.seq = s.seq) (hg : t.game = { s.game with fgPh := stagePhase s.game.stage })
  /-- R108 -/
  | newGame (hp : s.game.fgPh = .init) (hq : t.seq = s.seq)
      (hg : t.game = { s.game with seqLen := 1, stage := .simon, fgPh := .top })
  /-- R109, no sample ready -/
  | unprepared (hp : s.game.fgPh = .simPrep) (hq : t.seq = (lfsrSeed s).seq) (hg : t.game = { s.game with fgPh := .top })
  /-- R109, the sample taken -/
  | ready (hp : s.game.fgPh = .simPrep) (hq : t.seq = (lfsrSeed s).seq)
      (hg : t.game = { s.game with playIdx := 0, fgPh := .simNext })
  /-- R110, no step left -/
  | allShown (hp : s.game.fgPh = .simNext) (hq : t.seq = s.seq) (hg : t.game = { s.game with fgPh := .simDone })
  /-- R110, the next step -/
  | play (hp : s.game.fgPh = .simNext) (hq : t.seq = (lfsrAdvance P s).seq) (hg : t.game = { s.game with fgPh := .simOnWait })
  /-- R111, from the half delay on -/
  | gap (hp : s.game.fgPh = .simOnWait) (hq : t.seq = s.seq) (hg : t.game = { s.game with fgPh := .simOffWait })
  /-- R112, from the half delay on -/
  | shown (hp : s.game.fgPh = .simOffWait) (hq : t.seq = s.seq)
      (hg : t.game = { s.game with playIdx := s.game.playIdx + 1, fgPh := .simNext })
  /-- R113 -/
  | handOver (hp : s.game.fgPh = .simDone) (hq : t.seq = (lfsrSeed s).seq)
      (hg : t.game = { s.game with slot := .wait, stage := .player, fgPh := .top })
  /-- R114, no press -/
  | noPress (hp : s.game.fgPh = .plySub) (hq : t.seq = s.seq) (hg : t.game = { s.game with fgPh := .plyPost })
  /-- R114, a press recognised -/
  | press (i : LB) (src : Bool) (hp : s.game.fgPh = .plySub) (hq : t.seq = (lfsrAdvance P s).seq)
      (hg : t.game = { s.game with
        inputCnt := s.game.inputCnt + 1, srcKey := src, released := false, slot := Slot.held i, fgPh := .plyPost })
  /-- R115, the button still held -/
  | hold (inc rel : Bool) (hp : s.game.fgPh = .plySub) (hq : t.seq = s.seq)
      (hg : t.game = { s.game with incorrect := inc, released := rel, fgPh := .plyPost })
  /-- R115, the end of the input -/
  | finish (inc rel : Bool) (hp : s.game.fgPh = .plySub) (hq : t.seq = s.seq)
      (hg : t.game = { s.game with incorrect := inc, released := rel, consumed := true, slot := .wait, fgPh := .plyPost })
  /-- R116, no input consumed -/
  | noInput (hp : s.game.fgPh = .plyPost) (hq : t.seq = s.seq) (hg : t.game = { s.game with fgPh := .top })
  /-- R116, one input consumed -/
  | judge (hp : s.game.fgPh = .plyPost) (hq : t.seq = s.seq) (hg : t.game = { judgeRound s.game with fgPh := .top })
  /-- R117 -/
  | showSuccess (hp : s.game.fgPh = .sucShow) (hq : t.seq = s.seq) (hg : t.game = { s.game with fgPh := .sucWait })
  /-- R118, from the full delay on -/
  | lengthen (hp : s.game.fgPh = .sucWait) (hq : t.seq = s.seq)
      (hg : t.game = { s.game with seqLen := s.game.seqLen + 1, stage := .simon, fgPh := .top })
  /-- R119 -/
  | showFail (hp : s.game.fgPh = .failShow) (hq : t.seq = s.seq) (hg : t.game = { s.game with fgPh := .failWait1 })
  /-- R120, from the full delay on -/
  | showScore (hp : s.game.fgPh = .failWait1) (hq : t.seq = s.seq) (hg : t.game = { s.game with fgPh := .failWait2 })
  /-- R121, from the full delay on -/
  | saveSeed (hp : s.game.fgPh = .failWait2) (hq : t.seq = (lfsrSave (lfsrAdvance P s)).seq)
      (hg : t.game = { s.game with stage := .init, fgPh := .top })
  /-- R111, R112, R118, R120, R121 before their delay -/
  | poll (hp : isPollPhase s.game.fgPh = true) (hq : t.seq = s.seq) (hg : t.game = s.game)

theorem roundMove_microSimPrep (hp : s.game.fgPh = .simPrep) (r : Bool) (v : Byte) :
    RoundMove P s (microSimPrep r v s) := by
  cases r with
  | true =>
    rw [microSimPrep_ready]
    exact .ready hp rfl rfl
  | false =>
    rw [microSimPrep_notReady]
    exact .unprepared hp rfl rfl

theorem roundMove_microSimNext (hp : s.game.fgPh = .simNext) : RoundMove P s (microSimNext P s) := by
  rcases microSimNext_cases P s with ⟨-, he⟩ | ⟨-, he⟩ <;> rw [he]
  · exact .allShown hp rfl rfl
  · exact .play hp rfl rfl

theorem roundMove_microSimOnWait (hp : s.game.fgPh = .simOnWait) : RoundMove P s (microSimOnWait P s) := by
  rcases microSimOnWait_cases P s with ⟨-, he⟩ | ⟨-, he⟩ <;> rw [he]
  · exact .poll (by rw [hp]; rfl) rfl rfl
  · exact .gap hp rfl rfl

theorem roundMove_microSimOffWait (hp : s.game.fgPh = .simOffWait) : RoundMove P s (microSimOffWait s) := by
  rcases microSimOffWait_cases s with ⟨-, he⟩ | ⟨-, he⟩ <;> rw [he]
  · exact .poll (by rw [hp]; rfl) rfl rfl
  · exact .shown hp rfl rfl

theorem roundMove_microPlySub (hp : s.game.fgPh = .plySub) : RoundMove P s (microPlySub P s) := by
  rcases microPlySub_cases P s with ⟨-, he⟩ | ⟨i, -, he⟩ <;> rw [he]
  · rcases microPlyWait_cases P s with ⟨-, he⟩ | ⟨i, -, he⟩ <;> rw [he]
    · exact .noPress hp rfl rfl
    · rw [recognise_eq]
      exact .press i _ hp rfl rfl
  · rcases microPlyHeld_cases P i s with he | ⟨-, -, he⟩ <;> rw [he]
    · exact .hold _ _ hp rfl rfl
    · exact .finish _ _ hp rfl rfl

theorem roundMove_microPlyPost (hp : s.game.fgPh = .plyPost) : RoundMove P s (microPlyPost s) := by
  rcases microPlyPost_cases s with ⟨-, he⟩ | ⟨-, he⟩ <;> rw [he]
  · exact .noInput hp rfl rfl
  · exact .judge hp rfl rfl

theorem roundMove_microSucWait (hp : s.game.fgPh = .sucWait) : RoundMove P s (microSucWait P s) := by
  rcases microSucWait_cases P s with ⟨-, he⟩ | ⟨-, he⟩ <;> rw [he]
  · exact .poll (by rw [hp]; rfl) rfl rfl
  · exact .lengthen hp rfl rfl

theorem roundMove_microFailWait1 (hp : s.game.fgPh = .failWait1) (hst : microFailWait1 P s = .next t) : RoundMove P s t := by
  rcases microFailWait1_next hst with ⟨-, rfl⟩ | ⟨-, u, hu, rfl⟩
  · exact .poll (by rw [hp]; rfl) rfl rfl
  · obtain ⟨l, r, rfl⟩ := dispDigits_next hu
    exact .showScore hp rfl rfl

theorem roundMove_microFailWait2 (hp : s.game.fgPh = .failWait2) : RoundMove P s (microFailWait2 P s) := by
  rcases microFailWait2_cases P s with ⟨-, he⟩ | ⟨-, he⟩ <;> rw [he]
  · exact .poll (by rw [hp]; rfl) rfl rfl
  · exact .saveSeed hp rfl rfl

/-- Every micro-step that answers a next state makes a move of the round. -/
theorem roundMove_microStep {r : Bool} {v : Byte} (hst : microStep P r v s = .next t) : RoundMove P s t := by
  unfold microStep at hst
  cases hp : s.game.fgPh <;> rw [hp] at hst
  case failWait1 => exact roundMove_microFailWait1 hp hst
  all_goals cases hst
  case boot => exact .boot hp rfl rfl
  case top => exact .dispatch hp rfl rfl
  case init => exact .newGame hp rfl rfl
  case simPrep => exact roundMove_microSimPrep hp r v
  case simNext => exact roundMove_microSimNext hp
  case simOnWait => exact roundMove_microSimOnWait hp
  case simOffWait => exact roundMove_microSimOffWait hp
  case simDone => exact .handOver hp rfl rfl
  case plySub => exact roundMove_microPlySub hp
  case plyPost => exact roundMove_microPlyPost hp
  case sucShow => exact .showSuccess hp rfl rfl
  case sucWait => exact roundMove_microSucWait hp
  case failShow => exact .showFail hp rfl rfl
  case failWait2 => exact roundMove_microFailWait2 hp

/-- With no bare wait in progress a foreground step is a move of the round. -/
theorem roundMove_of_exec_fgStep {r : Bool} {v : Byte} (hwait : s.wait = none) (hst : exec (.fgStep r v) s = .next t) :
    RoundMove Config.params s t := by
  rw [exec_fgStep_idle hwait] at hst
  exact roundMove_microStep hst

/-- A foreground step is a move of the round or the poll of a bare wait, which leaves game and generator as they were. -/
theorem execFgStep_cases {r : Bool} {v : Byte} (hst : exec (.fgStep r v) s = .next t) :
    RoundMove Config.params s t ∨ (t.seq = s.seq ∧ t.game = s.game) := by
  cases hwait : s.wait with
  | none => exact .inl (roundMove_of_exec_fgStep hwait hst)
  | some k =>
    rw [exec_fgStep_waiting hwait] at hst
    cases hst
    rw [pollWait_eq]
    exact .inr ⟨rfl, rfl⟩

/-! ## The phase graph -/

/-- The poll phases are the phases of the graph with an edge to themselves. -/
theorem mem_phaseEdge_self_iff (ph : Phase) : ph ∈ phaseEdge ph ↔ isPollPhase ph = true := by
  cases ph <;> decide

theorem stagePhase_mem_phaseEdge_top (g : Stage) : stagePhase g ∈ phaseEdge .top := by
  cases g <;> decide

theorem RoundMove.fgPh_mem_phaseEdge (h : RoundMove P s t) : t.game.fgPh ∈ phaseEdge s.game.fgPh := by
  cases h with
  | dispatch hp _ hg => rw [hg, hp]; exact stagePhase_mem_phaseEdge_top _
  | poll hp _ hg => rw [hg]; exact (mem_phaseEdge_self_iff _).2 hp
  | boot hp _ hg | newGame hp _ hg | unprepared hp _ hg | ready hp _ hg | allShown hp _ hg | play hp _ hg | gap hp _ hg
  | shown hp _ hg | handOver hp _ hg | noPress hp _ hg | noInput hp _ hg | judge hp _ hg | showSuccess hp _ hg
  | lengthen hp _ hg | showFail hp _ hg | showScore hp _ hg | saveSeed hp _ hg => simp only [hg, hp]; decide
  | press _ _ hp _ hg | hold _ _ hp _ hg | finish _ _ hp _ hg => simp only [hg, hp]; decide

/-- Settles O56: each move follows an edge, and a phase with an edge to itself is a poll phase. -/
theorem phaseGraphIsFollowed : Obligations.PhaseGraphIsFollowed := by
  intro r v s t hwait hst
  have hedge := (roundMove_of_exec_fgStep hwait hst).fgPh_mem_phaseEdge
  exact ⟨hedge, fun hstay => (mem_phaseEdge_self_iff _).1 (hstay ▸ hedge)⟩

/-! ## The stage graph -/

/-- The phase of a move fixes the stage it starts from, and the moves that write `STAGE` are the rows of the graph. -/
theorem RoundMove.stage (h : RoundMove P s t) (hf : ForegroundInv s) :
    t.game.stage = s.game.stage ∨ stageEdge s.game.fgPh s.game.stage t.game.stage := by
  cases h with
  | newGame hp _ hg =>
    have hstage : s.game.stage = .init := hf.stageOfPhase _ (hp ▸ rfl)
    exact .inr (by simp [stageEdge, hp, hg, hstage])
  | handOver hp _ hg =>
    have hstage : s.game.stage = .simon := hf.stageOfPhase _ (hp ▸ rfl)
    exact .inr (by simp [stageEdge, hp, hg, hstage])
  | judge hp _ hg =>
    have hstage : s.game.stage = .player := hf.stageOfPhase _ (hp ▸ rfl)
    rcases judgeRound_cases s.game with ⟨-, hj⟩ | ⟨-, -, hj⟩ | ⟨-, -, hj⟩
    · exact .inr (by simp [stageEdge, hp, hg, hj, hstage])
    · exact .inr (by simp [stageEdge, hp, hg, hj, hstage])
    · exact .inl (by rw [hg, hj])
  | lengthen hp _ hg =>
    have hstage : s.game.stage = .success := hf.stageOfPhase _ (hp ▸ rfl)
    exact .inr (by simp [stageEdge, hp, hg, hstage])
  | saveSeed hp _ hg =>
    have hstage : s.game.stage = .fail := hf.stageOfPhase _ (hp ▸ rfl)
    exact .inr (by simp [stageEdge, hp, hg, hstage])
  | boot _ _ hg | dispatch _ _ hg | unprepared _ _ hg | ready _ _ hg | allShown _ _ hg | play _ _ hg | gap _ _ hg
  | shown _ _ hg | noPress _ _ hg | noInput _ _ hg | showSuccess _ _ hg | showFail _ _ hg | showScore _ _ hg
  | poll _ _ hg => exact .inl (by rw [hg])
  | press _ _ _ _ hg | hold _ _ _ _ hg | finish _ _ _ _ hg => exact .inl (by rw [hg])

/-! ## The steps of the other agents, and bare operations -/

/-- Every agent but the foreground leaves the generator, the game and the lines alone (10_state R13). -/
theorem exec_agentInstr_frame {p : InPorts} {a : Agent} (ha : a ≠ .fg) (hst : exec (agentInstr p a) s = .next t) :
    t.seq = s.seq ∧ t.game = s.game ∧ t.trace = s.trace := by
  cases a with
  | fg => exact absurd rfl ha
  | t1 => rw [execEvT1_frame hst]; exact ⟨rfl, rfl, rfl⟩
  | t5 => rw [execEvT5_frame hst]; exact ⟨rfl, rfl, rfl⟩
  | xd => rw [(execEvXd_frame hst).1]; exact ⟨rfl, rfl, rfl⟩
  | rx => rcases execSerial_frame (.inr ⟨_, rfl⟩) hst with he | he <;> rw [he] <;> exact ⟨rfl, rfl, rfl⟩
  | pc => rw [execEvPwmClk_frame hst]; exact ⟨rfl, rfl, rfl⟩

/-- An agent's step is a move of the round or leaves generator and game alone. -/
theorem exec_agentInstr_cases {p : InPorts} {a : Agent} (hst : exec (agentInstr p a) s = .next t) :
    RoundMove Config.params s t ∨ (t.seq = s.seq ∧ t.game = s.game) := by
  by_cases ha : a = .fg
  · subst ha
    exact execFgStep_cases hst
  · obtain ⟨hq, hg, -⟩ := exec_agentInstr_frame ha hst
    exact .inr ⟨hq, hg⟩

theorem exec_agentInstr_trace {p : InPorts} {a : Agent} (hst : exec (agentInstr p a) s = .next t) : t.trace = s.trace := by
  by_cases ha : a = .fg
  · subst ha
    rw [(execFgStep_frame hst).1]
  · obtain ⟨-, -, htrace⟩ := exec_agentInstr_frame ha hst
    exact htrace

/-- No bare operation writes the gameplay registers (30_encoding R67). -/
theorem exec_operation_game {i : Instr} (hi : formatOf i = .opsel) (hst : exec i s = .next t) : t.game = s.game := by
  cases i with
  | dispTick => obtain ⟨-, rfl⟩ := dispTick_next hst; rfl
  | dispDigits n => obtain ⟨l, r, rfl⟩ := dispDigits_next hst; rfl
  | tmrPrepare r v => cases hst; cases r <;> rfl
  | keyPress k =>
    cases hst
    rcases writesOctOrKey_keyPress k s with he | he <;> rw [he]
  | lfsrAdvance | lfsrSeed | lfsrSave | dbTick | edgeSample | tmrTick | tmrReset | tmrReached | tmrWaitFull | tmrWaitHalf
  | dispSet | dispRender | dispBlank | dispLatch | toneOn | toneOff | octInc | octDec | opPwmClk | keyClear =>
    cases hst; rfl
  | _ => cases hi

/-- Settles O57: a step that is not the reset step is an agent's, whose moves follow the stage graph, or a bare operation, which
keeps the game. -/
theorem stageGraphIsFollowed : Obligations.StageGraphIsFollowed := by
  intro s t hf hst hnoReset
  rcases step_cases hst with ⟨u, hu, -⟩ | ⟨p, a, ls, n, -, hrun⟩ | ⟨bytes, i, ls, -, hdec, hrun⟩
  · exact absurd hu (hnoReset u)
  · rcases exec_agentInstr_cases hrun with hmove | ⟨-, hg⟩
    · exact hmove.stage (hf.of_eq rfl rfl id)
    · exact .inl (congrArg Game.stage hg)
  · have hg := exec_operation_game (formatOf_of_decode_opsel hdec) hrun
    exact .inl (congrArg Game.stage hg)

/-! ## The replay invariant -/

/-- The phases in which the playback index tells where the generator stands. -/
def inPlayback : Phase → Bool
  | .simNext | .simOnWait | .simOffWait | .simDone => true
  | .boot | .top | .init | .simPrep | .plySub | .plyPost | .sucShow | .sucWait | .failShow | .failWait1 | .failWait2 => false

/-- The generator stands as many advances past the resume seed as presses were recognised in this round. -/
def JudgedInOrder (s : State) : Prop :=
  ∃ k, k % 256 = s.game.inputCnt.toNat ∧
    s.seq.lfsrState = advanced Config.params.lfsrMask k s.seq.reInit ∧
    (s.game.slot ≠ .wait → 0 < k ∧ s.seq.stepVal = stepOf s.seq.lfsrState)

theorem ReplayInv.of_eq (h : ReplayInv s) (hq : t.seq = s.seq) (hg : t.game = s.game) : ReplayInv t where
  next := hq ▸ hg ▸ h.next
  shown := hq ▸ hg ▸ h.shown
  judged := hq ▸ hg ▸ h.judged

/-- Outside the playback the presses alone count, and they count in PLAYER. -/
theorem ReplayInv.of_outside (hout : inPlayback t.game.fgPh = false) (hj : t.game.stage = .player → JudgedInOrder t) :
    ReplayInv t where
  next := by rintro (hp | hp) <;> rw [hp] at hout <;> cases hout
  shown := by rintro (hp | hp) <;> rw [hp] at hout <;> cases hout
  judged := hj

/-- A move to a phase outside the playback that keeps the generator, the counter and the slot. -/
theorem ReplayInv.leave (h : ReplayInv s) (hq : t.seq = s.seq) (hstage : t.game.stage = s.game.stage)
    (hcnt : t.game.inputCnt = s.game.inputCnt) (hslot : t.game.slot = s.game.slot ∨ t.game.slot = .wait)
    (hout : inPlayback t.game.fgPh = false) : ReplayInv t := by
  refine .of_outside hout fun hplayer => ?_
  obtain ⟨k, hk, hadv, hheld⟩ := h.judged (hstage ▸ hplayer)
  rw [JudgedInOrder, hq, hcnt]
  refine ⟨k, hk, hadv, fun hne => ?_⟩
  rcases hslot with hsame | hwait
  · exact hheld (hsame ▸ hne)
  · exact absurd hwait hne

theorem advanced_succ (mask : Word) (k : Nat) (x : Word) : advanced mask (k + 1) x = lfsrNext mask (advanced mask k x) := rfl

/-- `FG.SIM_NEXT` advances to the step it shows. -/
theorem replayInv_play (h : ReplayInv s) (hf : ForegroundInv s) (hp : s.game.fgPh = .simNext)
    (hq : t.seq = (lfsrAdvance Config.params s).seq) (hg : t.game = { s.game with fgPh := .simOnWait }) : ReplayInv t where
  next := by simp [hg]
  shown := fun _ => by
    rw [hq, hg, lfsrAdvance_eq, advanced_succ, ← h.next (.inl hp)]
    exact ⟨rfl, rfl⟩
  judged := by
    have hstage : s.game.stage = .simon := hf.stageOfPhase _ (hp ▸ rfl)
    simp [hg, hstage]

/-- A recognised press advances to the step it is judged against. -/
theorem judgedInOrder_press (h : JudgedInOrder s) (hq : t.seq = (lfsrAdvance Config.params s).seq)
    (hcnt : t.game.inputCnt = s.game.inputCnt + 1) : JudgedInOrder t := by
  obtain ⟨k, hk, hadv, -⟩ := h
  have hk' : (k + 1) % 256 = (s.game.inputCnt + 1).toNat := by
    rw [BitVec.toNat_add, ← hk]
    simp
  rw [JudgedInOrder, hq, hcnt, lfsrAdvance_eq]
  exact ⟨k + 1, hk', by rw [advanced_succ, ← hadv], fun _ => ⟨k.succ_pos, rfl⟩⟩

theorem RoundMove.replayInv (hmove : RoundMove Config.params s t) (h : ReplayInv s) (hf : ForegroundInv s) : ReplayInv t := by
  have stageOf {p : Phase} {g : Stage} (hp : s.game.fgPh = p) (hg : phaseStage p = some g := by rfl) : s.game.stage = g :=
    hf.stageOfPhase g (hp ▸ hg)
  have quiet (hout : inPlayback t.game.fgPh = false) (hne : t.game.stage ≠ .player) : ReplayInv t :=
    .of_outside hout fun hplayer => absurd hplayer hne
  cases hmove with
  | poll _ hq hg => exact h.of_eq hq hg
  | boot _ hq hg | noPress _ hq hg | noInput _ hq hg | showSuccess _ hq hg | showFail _ hq hg | showScore _ hq hg =>
    exact h.leave hq (by rw [hg]) (by rw [hg]) (.inl (by rw [hg])) (by rw [hg]; rfl)
  | hold _ _ _ hq hg => exact h.leave hq (by rw [hg]) (by rw [hg]) (.inl (by rw [hg])) (by rw [hg]; rfl)
  | finish _ _ _ hq hg => exact h.leave hq (by rw [hg]) (by rw [hg]) (.inr (by rw [hg])) (by rw [hg]; rfl)
  | dispatch _ hq hg =>
    exact h.leave hq (by rw [hg]) (by rw [hg]) (.inl (by rw [hg])) (by rw [hg]; cases s.game.stage <;> rfl)
  | newGame _ _ hg | lengthen _ _ hg | saveSeed _ _ hg => exact quiet (by rw [hg]; rfl) (by rw [hg]; nofun)
  | unprepared hp _ hg => exact quiet (by rw [hg]; rfl) (by rw [hg, stageOf hp]; nofun)
  | judge _ hq hg =>
    have hout : inPlayback t.game.fgPh = false := by rw [hg]; rfl
    rcases judgeRound_cases s.game with ⟨-, hj⟩ | ⟨-, -, hj⟩ | ⟨-, -, hj⟩
    · exact quiet hout (by rw [hg, hj]; nofun)
    · exact quiet hout (by rw [hg, hj]; nofun)
    · exact h.leave hq (by rw [hg, hj]) (by rw [hg, hj]) (.inl (by rw [hg, hj])) hout
  | ready hp hq hg =>
    exact { next := fun _ => by rw [hq, hg]; rfl, shown := by simp [hg], judged := by simp [hg, stageOf hp] }
  | allShown hp hq hg =>
    exact { next := fun _ => by rw [hq, hg]; exact h.next (.inl hp), shown := by simp [hg], judged := by simp [hg, stageOf hp] }
  | play hp hq hg => exact replayInv_play h hf hp hq hg
  | gap hp hq hg =>
    exact { next := by simp [hg], shown := fun _ => by rw [hq, hg]; exact h.shown (.inl hp), judged := by simp [hg, stageOf hp] }
  | shown hp hq hg =>
    have hidx : (s.game.playIdx + 1).toNat = s.game.playIdx.toNat + 1 := by
      have hlt := hf.waitIdx (.inr hp)
      bv_omega
    obtain ⟨hadv, -⟩ := h.shown (.inr hp)
    exact { next := fun _ => by rw [hq, hg, hidx]; exact hadv, shown := by simp [hg], judged := by simp [hg, stageOf hp] }
  | handOver hp hq hg =>
    obtain ⟨-, hcnt, -⟩ := hf.idle (by rw [stageOf hp]; nofun)
    refine .of_outside (by rw [hg]; rfl) fun _ => ?_
    rw [JudgedInOrder, hq, hg, hcnt]
    exact ⟨0, rfl, rfl, fun hne => absurd rfl hne⟩
  | press i src hp hq hg =>
    exact .of_outside (by rw [hg]; rfl) fun _ => judgedInOrder_press (h.judged (stageOf hp)) hq (by rw [hg])

/-- The reset table shows no step and has no press. -/
theorem replayInv_resetStep (P : Params) (s : State) : ReplayInv (resetStep P s) := .of_outside rfl nofun

/-! ## The lines -/

/-- The state a fetched step runs in. -/
def fetchedState : Fetched → State
  | .reset u => u
  | .code _ _ u => u

theorem portsOnly_of_trace (h : portsOnly s) (ht : t.trace = s.trace) : portsOnly t := by
  rw [portsOnly, ht]
  exact h

theorem portsOnly_present (h : portsOnly s) (p : InPorts) : portsOnly (fetchedState (present p s)) := by
  rcases present_cases p s with he | ⟨a, ls, n, he, rfl | ⟨q, rfl⟩⟩ <;> rw [he]
  · exact h
  · exact h
  · intro bytes hmem
    rcases List.mem_cons.1 hmem with hq | hmem
    · cases hq
    · exact h bytes hmem

/-- A fetch takes a line off and puts back lines of ports only (60_exceptions R143). -/
theorem portsOnly_fetch (h : portsOnly s) : portsOnly (fetchedState (fetch s)) := by
  have rest {l : Line} {ls : List Line} (htrace : s.trace = l :: ls) (bytes : List Byte) : Line.op bytes ∉ ls :=
    fun hmem => h bytes (htrace ▸ List.mem_cons_of_mem l hmem)
  unfold fetch
  split
  case h_1 =>
    have hdrawn : portsOnly ((s.setStrobes .low).setDraws (s.draws + 1)) := portsOnly_of_trace h rfl
    exact portsOnly_present hdrawn _
  case h_2 p ls htrace => exact portsOnly_present (rest htrace) p
  case h_3 bytes ls htrace => exact rest htrace

/-- Settles O60: with no bare operation waiting a step is the reset step or an agent's, and an agent's step is a move of the round
or leaves generator and game alone. -/
theorem everyStepKeepsTheReplayInvariant : Obligations.EveryStepKeepsTheReplayInvariant := by
  intro s t hblock hreplay hports hst
  have hfetched := portsOnly_fetch hports
  rcases step_cases hst with ⟨u, hu, rfl⟩ | ⟨p, a, ls, n, hcode, hrun⟩ | ⟨bytes, i, ls, htrace, -, -⟩
  · rw [hu] at hfetched
    exact ⟨replayInv_resetStep _ u, portsOnly_of_trace hfetched rfl⟩
  · rw [hcode] at hfetched
    refine ⟨?_, portsOnly_of_trace hfetched (exec_agentInstr_trace hrun)⟩
    have hstart := hreplay.of_eq (t := { s with trace := ls, draws := n, strobes := .low }) rfl rfl
    rcases exec_agentInstr_cases hrun with hmove | ⟨hq, hg⟩
    · exact hmove.replayInv hstart (hblock.after_fetch ls n).foreground
    · exact hstart.of_eq hq hg
  · exact absurd (htrace ▸ List.mem_cons_self) (hports bytes)

end Sys2Proof.Safety
end

section
/-! PROOFS. The serial keys (46_serial_input R124 to R137): the `KEY` operations' arms, what the arm of each command character
takes as its event, and that event in both states of `IE`. -/
namespace Sys2Proof.Machine

/-! ## The key operations -/

theorem exec_keyPress (i : LB) (s : State) : exec (.keyPress i) s = .next (keyPress i s) := rfl

theorem exec_keyClear (s : State) : exec .keyClear s = .next (keyClear s) := rfl

/-- 46 R124 in one equation, for a stage not yet known. -/
theorem keyPress_eq_ite (i : LB) (s : State) :
    keyPress i s = if s.game.stage = .player then { s with key := ⟨true, i⟩ } else s := by
  split
  case isTrue hplayer => exact keyPress_player i hplayer
  case isFalse hother => exact keyPress_other i hother

/-- Settles O42: the operation is `KEY.PRESS` itself, whose stage decides. -/
theorem keyPressOnlyInPlayer : Obligations.KeyPressOnlyInPlayer := fun i s => by
  rw [exec_keyPress, keyPress_eq_ite]

/-! ## The button characters -/

/-- A press taken as an event needs both `IE` and the stage PLAYER. -/
theorem takeEvent_keyPress (i : LB) (s : State) :
    takeEvent (fun t => .next (keyPress i t)) s =
      .next (if s.ie = true ∧ s.game.stage = .player then { s with key := ⟨true, i⟩ } else s) := by
  rw [ite_and]
  split
  case isTrue hie => rw [takeEvent_enabled _ hie, keyPress_eq_ite]
  case isFalse hie => exact takeEvent_disabled _ (Bool.eq_false_iff.2 hie)

/-- Settles O17: each of the eight rows takes the press of its own button as an event. -/
theorem buttonCharactersPressTheirKey : Obligations.ButtonCharactersPressTheirKey := by
  rintro ⟨i, button⟩ s hmem
  have harm : exec i s = takeEvent (fun t => .next (keyPress button t)) s := by
    simp only [List.mem_cons, Prod.mk.injEq, List.not_mem_nil, or_false] at hmem
    obtain ⟨rfl, rfl⟩ | ⟨rfl, rfl⟩ | ⟨rfl, rfl⟩ | ⟨rfl, rfl⟩ | ⟨rfl, rfl⟩ | ⟨rfl, rfl⟩ | ⟨rfl, rfl⟩ | ⟨rfl, rfl⟩ := hmem <;> rfl
  exact harm.trans (takeEvent_keyPress button s)

/-! ## The octave characters -/

theorem exec_octaveDownCharacter {i : Instr} {s : State} (hi : i ∈ [Instr.rxComma, .rxK]) (hie : s.ie = true) :
    exec i s = .next (octDec s) := by
  have harm : exec i s = takeEvent (fun t => .next (octDec t)) s := by
    obtain rfl | rfl := List.mem_pair.1 hi <;> rfl
  exact harm.trans (takeEvent_enabled _ hie)

theorem exec_octaveUpCharacter {i : Instr} {s : State} (hi : i ∈ [Instr.rxPeriod, .rxL]) (hie : s.ie = true) :
    exec i s = .next (octInc s) := by
  have harm : exec i s = takeEvent (fun t => .next (octInc t)) s := by
    obtain rfl | rfl := List.mem_pair.1 hi <;> rfl
  exact harm.trans (takeEvent_enabled _ hie)

/-- Settles O18: with `IE` set the rows are the saturating octave steps, which read no stage. -/
theorem octaveCharactersMoveTheOctave : Obligations.OctaveCharactersMoveTheOctave := fun s hie =>
  ⟨fun _ hi => ⟨_, octaveDown_value s.oct, by rw [exec_octaveDownCharacter hi hie, octDec_eq]⟩,
    fun _ hi => ⟨_, octaveUp_value s.oct, by rw [exec_octaveUpCharacter hi hie, octInc_eq]⟩⟩

/-! ## Every other character -/

theorem exec_rxOther_enabled {s : State} (c : Byte) (hie : s.ie = true) : exec (.rxOther c) s = .next (keyClear s) :=
  takeEvent_enabled (fun t => .next (keyClear t)) hie

/-- Settles O19: with `IE` set the row is `KEY.CLEAR`, whatever the character. -/
theorem otherCharactersClearTheKey : Obligations.OtherCharactersClearTheKey := fun c s =>
  ⟨fun hie => by rw [exec_rxOther_enabled c hie, keyClear_eq], by rw [exec_keyClear, keyClear_eq]⟩

end Sys2Proof.Machine
end

section
/-! PROOFS. Events and faults (60_exceptions R138 to R147): the handlers' arms as gated events, what `IE` makes of each, which of
several presented strobes is taken, and the two conditions in which an instruction faults. -/
namespace Sys2Proof.Machine

open Sys2Proof.Safety

variable {i : Instr} {s : State}

/-! ## Events presented together -/

/-- The agent taken first is one of those presented, also when it is the `XD` that goes before a `T5`. -/
theorem firstOf_mem {agents : List Agent} (h : 0 < agents.length) (s : State) : firstOf agents s ∈ agents := by
  dsimp only [firstOf]
  split
  case isTrue hxd =>
    obtain ⟨-, hmem, -⟩ := hxd
    exact hmem
  case isFalse =>
    rw [List.getElem?_eq_getElem (Nat.mod_lt _ h)]
    exact List.getElem_mem _

/-- A `T5` that would overrun is not taken while an `XD` is presented with it (60 R143). -/
theorem firstOf_not_overrun (agents : List Agent) (s : State) :
    ¬ (firstOf agents s = .t5 ∧ .xd ∈ agents ∧ s.mux.xferBusy = true ∧ s.ie = true) := by
  dsimp only [firstOf]
  split
  case isTrue => exact fun ⟨hxd, _⟩ => nomatch hxd
  case isFalse hfree => exact hfree

/-- Several strobes: the first agent's instruction runs, and the line stays with that strobe taken away. -/
theorem present_several {p : InPorts} (hrst : p.rst = false) (hp : 2 ≤ p.agents.length) (s : State) :
    present p s = .code .event (eventBytes p (firstOf p.agents s))
      { s with trace := .ports (p.clear (firstOf p.agents s)) :: s.trace, draws := s.draws + 1 } := by
  unfold present
  rw [if_neg (Bool.eq_false_iff.1 hrst)]
  split
  case h_1 hnone => rw [hnone] at hp; exact absurd hp (by decide)
  case h_2 hone => rw [hone] at hp; exact absurd hp (Nat.not_succ_le_self 1)
  case h_3 hmany => rw [hmany]; rfl

/-- Settles O9: the agent taken is `firstOf` the presented ones. -/
theorem eventsTogetherAreTakenOneAtATime : Obligations.EventsTogetherAreTakenOneAtATime := by
  intro s p rest hs hrst hp
  have hfetch := (fetch_ports hs).trans (present_several hrst hp (afterLine s rest))
  exact ⟨firstOf p.agents (afterLine s rest), _, firstOf_mem (Nat.zero_lt_of_lt hp) _,
    step_of_decode_ok hfetch (decode_eventBytes p _), firstOf_not_overrun p.agents (afterLine s rest)⟩

/-! ## The events and `IE` -/

/-- The arm of every handler's row is an event that `IE` gates (60 R141). -/
theorem exec_handler (hi : isHandler i = true) : ∃ h, exec i = takeEvent h := by
  cases i with
  | evT1 | evT5 | evXd | evRx => exact ⟨_, rfl⟩
  | rxDigit1 | rxQ | rxDigit2 | rxW | rxDigit3 | rxE | rxDigit4 | rxR | rxComma | rxK | rxPeriod | rxL | rxOther =>
    exact ⟨_, rfl⟩
  | _ => cases hi

theorem exec_handler_disabled (hi : isHandler i = true) (hie : s.ie = false) : exec i s = .next s := by
  obtain ⟨h, harm⟩ := exec_handler hi
  rw [harm, takeEvent_disabled h hie]

/-- Settles O13: a gated event is lost. -/
theorem eventsAreLostWhileDisabled : Obligations.EventsAreLostWhileDisabled :=
  fun _ _ hi hie => exec_handler_disabled hi hie

/-- An event whose handler always answers a next state, in one equation for both states of `IE`. -/
theorem takeEvent_of_next (f : State → State) (s : State) :
    takeEvent (fun u => .next (f u)) s = .next (if s.ie = true then f s else s) := by
  split
  case isTrue hie => exact takeEvent_enabled _ hie
  case isFalse hie => exact takeEvent_disabled _ (Bool.eq_false_iff.2 hie)

theorem exec_evT1 (s : State) : exec .evT1 s = .next (if s.ie = true then tmrTick s else s) := takeEvent_of_next tmrTick s

theorem exec_evXd (s : State) : exec .evXd s = .next (if s.ie = true then dispLatch s else s) := takeEvent_of_next dispLatch s

theorem exec_evRx (c : Byte) (s : State) : exec (.evRx c) s = .next (if s.ie = true then rxCommand c s else s) :=
  takeEvent_of_next (rxCommand c) s

/-- Settles O14: the two handlers are `TMR.TICK` and `DISP.LATCH`. -/
theorem millisecondAndTransferEvents : Obligations.MillisecondAndTransferEvents := fun s =>
  ⟨by rw [exec_evT1, tmrTick_eq], dispLatch s, exec_dispLatch s, exec_evXd s⟩

theorem exec_evT5_busy (hie : s.ie = true) (hbusy : s.mux.xferBusy = true) (raw : Byte) :
    exec (.evT5 raw) s = .fault .transferOverrun :=
  (takeEvent_enabled (handleT5 Config.params raw) hie).trans (dispTick_busy hbusy)

/-- Settles O15: the debouncer's write leaves alone what the shipping reads, so `IE` and `XFER_BUSY` before the step decide. -/
theorem fiveMillisecondTickEvent : Obligations.FiveMillisecondTickEvent := by
  refine fun raw s => ⟨fun hie hidle => ⟨dbTick Config.params raw s, rfl, ?ships⟩, fun hie hbusy => exec_evT5_busy hie hbusy raw,
    fun hie => exec_handler_disabled rfl hie⟩
  case ships => rw [exec_evT5_idle hie hidle, shipByte_eq]; rfl

/-! ## A received character -/

theorem rxCommand_other {c : Byte} (hc : c ∉ commandChars) (s : State) : rxCommand c s = keyClear s := by
  rw [rxCommand, decodeRxChar_other hc]

/-- The row of a character and `EV.RX` with it are the same event (30_encoding R70). -/
theorem exec_decodeRxChar (c : Byte) : exec (decodeRxChar c) = exec (.evRx c) := by
  by_cases hc : c ∈ commandChars
  case pos =>
    simp only [commandChars, List.mem_cons, List.not_mem_nil, or_false] at hc
    rcases hc with rfl | rfl | rfl | rfl | rfl | rfl | rfl | rfl | rfl | rfl | rfl | rfl <;> rfl
  case neg =>
    have hhandler : handleRx c = fun u => .next (keyClear u) := funext fun u => by rw [handleRx, rxCommand_other hc]
    rw [decodeRxChar_other hc]
    exact congrArg takeEvent hhandler.symm

/-- Settles O16: the decoded row is the same event, and its handler always answers a next state. -/
theorem receiveEventRunsItsCharacter : Obligations.ReceiveEventRunsItsCharacter := fun c s =>
  ⟨decodeRxChar c, _, rfl, by rw [exec_decodeRxChar, exec_evRx], exec_evRx c s⟩

/-! ## The two model faults -/

/-- A byte would be shipped while a transfer is in flight (60 R139). -/
def Overruns (i : Instr) (s : State) : Prop :=
  s.mux.xferBusy = true ∧ (i = .dispTick ∨ (s.ie = true ∧ ∃ raw, i = .evT5 raw))

/-- The instruction is the poll that shows the score: `FG.FAIL_WAIT1` by itself, or selected by the foreground. -/
def PollsForScore (i : Instr) (s : State) : Prop :=
  i = .fgFailWait1 ∨ (s.wait = none ∧ s.game.fgPh = .failWait1 ∧ ∃ r v, i = .fgStep r v)

/-- A number without a tens digit in the table would be shown (60 R139). -/
def ShowsBeyondTable (i : Instr) (s : State) : Prop :=
  (∃ n : Byte, i = .dispDigits n ∧ 110 ≤ n.toNat) ∨
    (110 ≤ s.game.seqLen.toNat ∧ s.time.playbackDelay.toNat ≤ s.time.elapsed.toNat ∧ PollsForScore i s)

theorem exec_of_overruns (h : Overruns i s) : exec i s = .fault .transferOverrun := by
  obtain ⟨hbusy, rfl | ⟨hie, raw, rfl⟩⟩ := h
  · exact dispTick_busy hbusy
  · exact exec_evT5_busy hie hbusy raw

theorem microStep_failWait1 (hp : s.game.fgPh = .failWait1) (P : Params) (r : Bool) (v : Byte) :
    microStep P r v s = microFailWait1 P s := by
  rw [microStep, hp]

theorem exec_of_pollsForScore (h : PollsForScore i s) : exec i s = microFailWait1 Config.params s := by
  obtain rfl | ⟨hwait, hp, r, v, rfl⟩ := h
  · exact exec_fgFailWait1 s
  · rw [exec_fgStep_idle hwait, microStep_failWait1 hp]

theorem exec_of_showsBeyondTable (h : ShowsBeyondTable i s) : exec i s = .fault .digitOutOfTable := by
  obtain ⟨n, rfl, hn⟩ | ⟨hscore, hreached, hpoll⟩ := h
  · exact dispDigits_ge Config.params hn s
  · rw [exec_of_pollsForScore hpoll, microFailWait1_reached _ hreached, dispDigits_ge _ hscore]
    rfl

/-- The score's poll completes below the full delay, and from it on with a score that has digits. -/
theorem microFailWait1_completes (P : Params)
    (h : ¬ (110 ≤ s.game.seqLen.toNat ∧ s.time.playbackDelay.toNat ≤ s.time.elapsed.toNat)) :
    Completes (microFailWait1 P s) := by
  rcases Nat.lt_or_ge s.time.elapsed.toNat s.time.playbackDelay.toNat with hbelow | hreached
  · exact ⟨s, microFailWait1_below P hbelow⟩
  · have hscore : s.game.seqLen.toNat < 110 := Nat.lt_of_not_le fun hscore => h ⟨hscore, hreached⟩
    rw [microFailWait1_reached P hreached, dispDigits_lt P hscore]
    exact ⟨_, rfl⟩

theorem exec_completes_of_pollsForScore (hpoll : PollsForScore i s) (h : ¬ ShowsBeyondTable i s) : Completes (exec i s) := by
  rw [exec_of_pollsForScore hpoll]
  exact microFailWait1_completes _ fun ⟨hscore, hreached⟩ => h (.inr ⟨hscore, hreached, hpoll⟩)

/-- A foreground step is the score's poll or completes: the poll of a bare wait and every other micro-step do. -/
theorem exec_fgStep_completes_or_pollsForScore (r : Bool) (v : Byte) (s : State) :
    Completes (exec (.fgStep r v) s) ∨ PollsForScore (.fgStep r v) s := by
  cases hwait : s.wait with
  | some k => exact .inl ⟨_, exec_fgStep_waiting hwait r v⟩
  | none =>
    by_cases hp : s.game.fgPh = .failWait1
    · exact .inr (.inr ⟨hwait, hp, r, v, rfl⟩)
    · rw [exec_fgStep_idle hwait]
      exact .inl (microStep_completes _ r v fun hp' => absurd hp' hp)

/-- Outside the two conditions every instruction completes. -/
theorem exec_completes (hover : ¬ Overruns i s) (hscore : ¬ ShowsBeyondTable i s) : Completes (exec i s) := by
  cases i with
  | dispTick =>
    have hidle : s.mux.xferBusy = false := Bool.eq_false_iff.2 fun hbusy => hover ⟨hbusy, .inl rfl⟩
    exact ⟨_, dispTick_idle hidle⟩
  | evT5 raw =>
    cases hie : s.ie with
    | false => exact ⟨s, exec_handler_disabled rfl hie⟩
    | true =>
      have hidle : s.mux.xferBusy = false := Bool.eq_false_iff.2 fun hbusy => hover ⟨hbusy, .inr ⟨hie, raw, rfl⟩⟩
      exact ⟨_, exec_evT5_idle hie hidle raw⟩
  | dispDigits n => exact ⟨_, dispDigits_lt _ (Nat.lt_of_not_le fun hn => hscore (.inl ⟨n, rfl, hn⟩)) s⟩
  | fgFailWait1 => exact exec_completes_of_pollsForScore (.inl rfl) hscore
  | fgStep r v =>
    rcases exec_fgStep_completes_or_pollsForScore r v s with hdone | hpoll
    · exact hdone
    · exact exec_completes_of_pollsForScore hpoll hscore
  | evT1 | evXd | evRx => exact ⟨_, takeEvent_of_next _ s⟩
  | rxDigit1 | rxQ | rxDigit2 | rxW | rxDigit3 | rxE | rxDigit4 | rxR | rxComma | rxK | rxPeriod | rxL | rxOther =>
    exact ⟨_, takeEvent_of_next _ s⟩
  | _ => exact ⟨_, rfl⟩

/-- What an instruction can answer: one of the two faults in its condition, or a next state; a refusal never. -/
theorem exec_cases (i : Instr) (s : State) :
    (Overruns i s ∧ exec i s = .fault .transferOverrun) ∨ (ShowsBeyondTable i s ∧ exec i s = .fault .digitOutOfTable) ∨
      Completes (exec i s) := by
  by_cases hover : Overruns i s
  · exact .inl ⟨hover, exec_of_overruns hover⟩
  · by_cases hscore : ShowsBeyondTable i s
    · exact .inr (.inl ⟨hscore, exec_of_showsBeyondTable hscore⟩)
    · exact .inr (.inr (exec_completes hover hscore))

/-- Settles O55: each condition gives its own fault, and outside both the instruction completes. -/
theorem instructionsFaultExactlyInTwoConditions : Obligations.InstructionsFaultExactlyInTwoConditions := by
  intro i s
  refine ⟨fun r hr => ?noRefusal, ⟨fun hf => ?overrun, exec_of_overruns⟩, ⟨fun hf => ?score, exec_of_showsBeyondTable⟩⟩
  case noRefusal => rcases exec_cases i s with ⟨-, h⟩ | ⟨-, h⟩ | ⟨t, h⟩ <;> cases h.symm.trans hr
  case overrun =>
    rcases exec_cases i s with ⟨hover, -⟩ | ⟨-, h⟩ | ⟨t, h⟩
    · exact hover
    · cases h.symm.trans hf
    · cases h.symm.trans hf
  case score =>
    rcases exec_cases i s with ⟨-, h⟩ | ⟨hscore, -⟩ | ⟨t, h⟩
    · cases h.symm.trans hf
    · exact hscore
    · cases h.symm.trans hf

end Sys2Proof.Machine
end

section
/-! PROOFS. Reset (70_reset_and_hazards R158 to R161): the step that reset presents, the reset table and the invariants it has,
and the foreground's way from it through `BOOT`, `TOP` and `INIT`. -/
namespace Sys2Proof.Machine

open Sys2Proof.Safety

variable {s t u : State}

/-! ## The reset step -/

/-- Reset goes before everything presented with it (R158). -/
theorem present_reset {p : InPorts} (hrst : p.rst = true) (s : State) : present p s = .reset s := by
  rw [present, if_pos hrst]

theorem step_of_fetch_reset (hs : fetch s = .reset u) : step s = .next (resetStep Config.params u) := by
  rw [step, hs, runFetched]

/-- The reset step gives the reset state, but for the environment's cells (log 8) and the lines still to be presented (log 29). -/
theorem resetStep_eq (s : State) :
    resetStep Config.params s =
      { State.reset with
        panel := ⟨Config.visAfterReset s.draws, Config.digLeftAfterReset s.draws, Config.digRightAfterReset s.draws⟩
        trace := s.trace
        draws := s.draws + 1 } := rfl

/-- Settles O10: the fetch takes up the reset step, which reads of the state only its lines and its counter. -/
theorem resetStepWritesTheResetTable : Obligations.ResetStepWritesTheResetTable := by
  intro s p rest hs hrst
  have hfetch : fetch s = .reset (afterLine s rest) := (fetch_ports hs).trans (present_reset hrst _)
  exact ⟨_, _, (step_of_fetch_reset hfetch).trans (congrArg Host.Outcome.next (resetStep_eq (afterLine s rest)))⟩

/-! ## The reset state -/

/-- Settles O11: each register is a field of the table. -/
theorem resetLeavesTheResetTable : Obligations.ResetLeavesTheResetTable :=
  ⟨rfl, rfl, rfl, rfl, rfl, rfl, rfl, rfl, rfl, rfl, rfl, rfl⟩

theorem replayInv_resetWith (P : Params) : ReplayInv (State.resetWith P) := .of_outside rfl nofun

/-- No line is presented yet (log 1). -/
theorem portsOnly_resetWith (P : Params) : portsOnly (State.resetWith P) := fun _ => List.not_mem_nil

/-- Settles O58: the table has the invariants whatever the parameters are. -/
theorem resetHasTheInvariants : Obligations.ResetHasTheInvariants :=
  ⟨⟨unitInv_resetWith _, foregroundInv_resetWith _⟩, replayInv_resetWith _, portsOnly_resetWith _⟩

/-! ## The foreground's steps from reset -/

/-- A byte compared with itself has no edge (41 R79). -/
theorem edgesOf_self (b : Byte) : edgesOf b b = ⟨b, b, 0, 0, 0⟩ := by
  rw [edgesOf, BitVec.xor_self, BitVec.zero_and]
  rfl

/-- A sample of an unchanged byte, with no edge left from the pass before, changes nothing. -/
theorem edgeSample_unchanged (h : s.edge = ⟨s.deb.pbDeb, s.deb.pbDeb, 0, 0, 0⟩) : edgeSample s = s := by
  have hedges : edgesOf s.edge.pbCurr s.deb.pbDeb = s.edge := by rw [h, edgesOf_self]
  rw [edgeSample_eq, hedges]

/-! The phase and the idle wait are met by computing the state, once it is known. -/

theorem exec_fgStep_boot (r : Bool) (v : Byte) (hp : s.game.fgPh = .boot := by rfl) (hwait : s.wait = none := by rfl) :
    exec (.fgStep r v) s = .next { s with ie := true, game := { s.game with fgPh := .top } } := by
  rw [exec_fgStep_idle hwait, microStep, hp]
  rfl

/-- A pass that finds no edge dispatches on the stage and nothing more (45 R107). -/
theorem exec_fgStep_top_unchanged (r : Bool) (v : Byte) (hp : s.game.fgPh = .top := by rfl) (hwait : s.wait = none := by rfl)
    (hedge : s.edge = ⟨s.deb.pbDeb, s.deb.pbDeb, 0, 0, 0⟩ := by rfl) :
    exec (.fgStep r v) s = .next { s with game := { s.game with fgPh := stagePhase s.game.stage } } := by
  have htop : microStep Config.params r v s = .next (microTop s) := by rw [microStep, hp]
  rw [exec_fgStep_idle hwait, htop, microTop, edgeSample_unchanged hedge, goPhase_eq]

theorem exec_fgStep_init (r : Bool) (v : Byte) (hp : s.game.fgPh = .init := by rfl) (hwait : s.wait = none := by rfl) :
    exec (.fgStep r v) s = .next { s with game := { s.game with seqLen := 1, stage := .simon, fgPh := .top } } := by
  rw [exec_fgStep_idle hwait, microStep, hp]
  rfl

theorem execAll_concat {is : List Instr} {i : Instr} (his : execAll is s = .next t) (hi : exec i t = .next u) :
    execAll (is ++ [i]) s = .next u := by
  rw [execAll_append, his, andThen_next, execAll_singleton, hi]

/-- Settles O12: the phases of the four steps are `BOOT`, `TOP`, `INIT`, `TOP`, none of which reads the analog ports, and either
`TOP` samples the byte that reset left in `PB_DEB`, `PB_PREV` and `PB_CURR`. -/
theorem firstFourMicroStepsAfterReset : Obligations.FirstFourMicroStepsAfterReset := by
  intro r1 r2 r3 r4 v1 v2 v3 v4
  have one := (execAll_singleton _ State.reset).trans (exec_fgStep_boot r1 v1)
  have two := execAll_concat one (exec_fgStep_top_unchanged r2 v2)
  have three := execAll_concat two (exec_fgStep_init r3 v3)
  have four := execAll_concat three (exec_fgStep_top_unchanged r4 v4)
  exact ⟨one, two, three, four⟩

end Sys2Proof.Machine
end
